-- ==== Sys2Proof/Word.lean ====
section
/-! DEFINITION. The two word types of the chip bus: a frame is one 16-bit word (00_scope.md R9, `FRAME_W` = 16),
sent as two 8-bit bytes (20_memory.md R50, R51). Every other number of the core is an integer or a natural number
(00_scope.md R10). -/

namespace Sys2Proof

/-- One byte on the chip bus. -/
abbrev Byte := BitVec 8

/-- One 16-bit frame word; bit 15 is the most significant (R9). -/
abbrev Word := BitVec 16

end Sys2Proof
end

