-- ==== Sys2Proof/Config.lean ====
section
/-! DEFINITION. The constants the spec fixes and the configuration record `Cfg` of its OPEN parameters (00_scope.md
section 4). `Cfg` holds numbers only; which records are admitted is `Cfg.wf` (Sys2Proof/WellFormed.lean, rules R7 and
R8). `ref0` is the spec's non-normative reference instantiation (93_implementation_defined.md G1, G2). -/

namespace Sys2Proof

/-! ### Fixed parameters -/

/-- `VOL_MIN`, the softest volume level. -/
def volMin : Int := -447
/-- `VOL_MAX`, the loudest volume level. -/
def volMax : Int := 0
/-- `T_SELECT`, the SourceSelect inactivity timeout in milliseconds (R248). -/
def tSelect : Nat := 5000
/-- `T_PRESS`: a press qualifies when its duration in milliseconds is greater than this (R248). -/
def tPress : Nat := 50
/-- `DEFAULT_VOL`, the level when the store holds no valid one (R59). -/
def defaultVol : Int := -447

/-! ### OPEN parameters -/

/-- The OPEN parameters of 00_scope.md section 4. `W_TIME`, `W_ROT` and `W_DUR` are not fields: the spec names them
and uses them nowhere (U13, log entry 14); `KEY_VOLUME` and `KEY_SOURCE` are the constructors of `Key`. -/
structure Cfg where
  /-- `CA`, the 2-bit address of the chip this core drives. -/
  ca : BitVec 2
  /-- `CA_LSB`, the frame bit of the chip address's low bit. -/
  caLsb : Nat
  /-- `SEL_ATT_L`. -/
  selAttL : Word
  /-- `SEL_ATT_R`. -/
  selAttR : Word
  /-- `SEL_GAIN`. -/
  selGain : Word
  /-- `SEL_STATES`. -/
  selStates : Word
  /-- `ZC_BIT`. -/
  zcBit : Nat
  /-- `LINK_BIT`. -/
  linkBit : Nat
  /-- `GAIN_LSB`. -/
  gainLsb : Nat
  /-- `CLK_BIT`. -/
  clkBit : Nat
  /-- `SOFTSTEP_BIT`. -/
  softstepBit : Nat
  /-- `W_ADDR`, width of the remote system address. -/
  wAddr : Nat
  /-- `W_CMD`, width of the remote command code. -/
  wCmd : Nat
  /-- `RC_ADDR_PREAMP`. -/
  rcAddrPreamp : Nat
  /-- `RC_ADDR_TRANSPORT`. -/
  rcAddrTransport : Nat
  /-- `CMD_SRC[1]`. -/
  cmdSrc1 : Nat
  /-- `CMD_SRC[2]`. -/
  cmdSrc2 : Nat
  /-- `CMD_SRC[3]`. -/
  cmdSrc3 : Nat
  /-- `CMD_SRC[4]`. -/
  cmdSrc4 : Nat
  /-- `CMD_VOL_UP`. -/
  cmdVolUp : Nat
  /-- `CMD_VOL_DOWN`. -/
  cmdVolDown : Nat
  /-- `CMD_MUTE`. -/
  cmdMute : Nat
  /-- `CMD_PLAY`. -/
  cmdPlay : Nat
  deriving DecidableEq, Repr

/-- `CA_MASK = 3 << CA_LSB` (R7). -/
def Cfg.caMask (c : Cfg) : Word := 3#16 <<< c.caLsb

/-- `SEL_MASK`, the OR of the four select codes (R7). -/
def Cfg.selMask (c : Cfg) : Word := c.selAttL ||| c.selAttR ||| c.selGain ||| c.selStates

/-- `ADDR_MASK = SEL_MASK | CA_MASK`, the address field of a frame (R7, R82). -/
def Cfg.addrMask (c : Cfg) : Word := c.selMask ||| c.caMask

/-- `REF0` with chip address `ca` (G1, G2). PRESUMED: every value is general knowledge of the spec's writer, and
`GAIN_LSB` and `SOFTSTEP_BIT`, for which REF0 has none, are a DESIGN CHOICE (log entries 1 and 2). Unsafe to rest a claim
on any of them. -/
def ref0 (ca : BitVec 2) : Cfg where
  ca := ca
  caLsb := 0
  selAttL := 0x0010#16
  selAttR := 0x0014#16
  selGain := 0x0008#16
  selStates := 0x000C#16
  zcBit := 8
  linkBit := 15
  gainLsb := 9
  clkBit := 9
  softstepBit := 8
  wAddr := 5
  wCmd := 6
  rcAddrPreamp := 16
  rcAddrTransport := 20
  cmdSrc1 := 1
  cmdSrc2 := 2
  cmdSrc3 := 3
  cmdSrc4 := 4
  cmdVolUp := 16
  cmdVolDown := 17
  cmdMute := 13
  cmdPlay := 53

end Sys2Proof
end

