-- ==== Sys2Proof/Syntax.lean ====
section
/-! DEFINITION. The syntax: the closed enumerations of the spec, the four formats OP, FRAME16, RC and EV (30_encoding.md
R80), the one inductive `Instr` with one constructor per row of spec/opcode_table.json, and `Input`, what is offered to
the core before it is decoded. -/

namespace Sys2Proof

/-- The input sources, indices 1 to 4 (10_state.md R23). -/
inductive Source where
  | phono | media | cd | tuner
  deriving DecidableEq, Repr

/-- A direction: `+1` or `−1` (R90, R91). -/
inductive Dir where
  | up | down
  deriving DecidableEq, Repr

/-- The control mode (10_state.md R25). -/
inductive Mode where
  | run | sourceSelect
  deriving DecidableEq, Repr

/-- A remote triple `(toggleBit, systemAddress, commandCode)` (30_encoding.md R88). Address and command are natural
numbers without a width (U11). -/
structure Triple where
  toggle : Bool
  addr : Nat
  cmd : Nat
  deriving DecidableEq, Repr

/-- The application events, the output alphabet of DEDUP and the input alphabet of FSM (30_encoding.md R90). -/
inductive AppEvent where
  | selectSource (n : Source)
  | volumeStep (d : Dir)
  | toggleMute
  | playCd
  deriving DecidableEq, Repr

/-- The instructions of the core, one constructor per row of the opcode table (R99). -/
inductive Instr where
  /-- OP `att(v)`, R110. -/
  | att (v : Int)
  /-- OP `setVolume(left, right)`, R111. -/
  | setVolume (left right : Int)
  /-- OP `mute()`, R112. -/
  | mute
  /-- OP `setGain()`, R113. -/
  | setGain
  /-- OP `setExternalClock(enabled)`, R114. -/
  | setExternalClock (enabled : Bool)
  /-- OP `setZeroCrossing(enabled)`, R115. -/
  | setZeroCrossing (enabled : Bool)
  /-- OP `setLinkChannels(enabled)`, R116. -/
  | setLinkChannels (enabled : Bool)
  /-- OP `unmute()`, the pseudo-operation of R117. -/
  | unmute
  /-- FRAME16 `ATT_L`, the left attenuation frame of volume `v`, R83. -/
  | attL (v : Int)
  /-- FRAME16 `ATT_R`, the right attenuation frame of volume `v`, R83. -/
  | attR (v : Int)
  /-- FRAME16 `ATT_L_MUTE`, R86. -/
  | attLMute
  /-- FRAME16 `ATT_R_MUTE`, R86. -/
  | attRMute
  /-- FRAME16 `GAIN`, R84: which of its four words, by raw zero-crossing bit and link bit. -/
  | gain (zcRaw link : Bool)
  /-- FRAME16 `STATES`, R85: which of its two words, by raw clock bit. -/
  | states (clkRaw : Bool)
  /-- RC `RC_SRC1`, R140. -/
  | rcSrc1 (t : Bool)
  /-- RC `RC_SRC2`, R141. -/
  | rcSrc2 (t : Bool)
  /-- RC `RC_SRC3`, R142. -/
  | rcSrc3 (t : Bool)
  /-- RC `RC_SRC4`, R143. -/
  | rcSrc4 (t : Bool)
  /-- RC `RC_VOL_UP`, R144. -/
  | rcVolUp (t : Bool)
  /-- RC `RC_VOL_DOWN`, R145. -/
  | rcVolDown (t : Bool)
  /-- RC `RC_MUTE`, R146. -/
  | rcMute (t : Bool)
  /-- RC `RC_PLAY`, R147. -/
  | rcPlay (t : Bool)
  /-- RC `RC_OTHER`, a triple whose pair is in no row, R148. -/
  | rcOther (t : Bool) (a c : Nat)
  /-- EV `VolumeStep(+1)`, R172. -/
  | volUp
  /-- EV `VolumeStep(−1)`, R173. -/
  | volDown
  /-- EV `SelectSource(n)` at clock sample `now`, R176. -/
  | selectSource (n : Source) (now : Nat)
  /-- EV `ToggleMute`, R181. -/
  | toggleMute
  /-- EV `PlayCD` at clock sample `now`, R183. -/
  | playCd (now : Nat)
  /-- EV `Rotary(+1)` at clock sample `now`, R178. -/
  | rotUp (now : Nat)
  /-- EV `Rotary(−1)` at clock sample `now`, R178. -/
  | rotDown (now : Nat)
  /-- EV `Button(dur)` at clock sample `now`, R179. -/
  | btn (dur now : Nat)
  /-- EV `Timeout`, R180. -/
  | timeout
  /-- EV `boot(pv, ps)` with the two answers of the persisted store, R232. -/
  | boot (pv : Option Int) (ps : Option Nat)
  /-- EV `tick(now, rc)`, R151. -/
  | tick (now : Nat) (rc : Option Triple)
  /-- EV `cb_rot(d)`, the turn-delta callback, R156. -/
  | cbRot (d : Int)
  /-- EV `cb_btn(dur)`, the press-duration callback, R157. -/
  | cbBtn (dur : Nat)
  deriving DecidableEq, Repr

/-- The four formats (30_encoding.md R80). -/
inductive Format where
  | op | frame16 | rc | ev
  deriving DecidableEq, Repr

/-- The format of each instruction, as the opcode table's `format` column gives it. -/
def Instr.format : Instr → Format
  | .att _ | .setVolume _ _ | .mute | .setGain | .setExternalClock _ | .setZeroCrossing _ | .setLinkChannels _
  | .unmute => .op
  | .attL _ | .attR _ | .attLMute | .attRMute | .gain _ _ | .states _ => .frame16
  | .rcSrc1 _ | .rcSrc2 _ | .rcSrc3 _ | .rcSrc4 _ | .rcVolUp _ | .rcVolDown _ | .rcMute _ | .rcPlay _
  | .rcOther _ _ _ => .rc
  | .volUp | .volDown | .selectSource _ _ | .toggleMute | .playCd _ | .rotUp _ | .rotDown _ | .btn _ _ | .timeout
  | .boot _ _ | .tick _ _ | .cbRot _ | .cbBtn _ => .ev

/-- The steps of the two agents of the integrated core: `boot` and `tick` of CORE, the two callbacks of ISR (R98, R230).
Every other instruction is a piece of one of the three blocks, offered to that block alone. -/
def Instr.isAgentStep : Instr → Bool
  | .boot _ _ | .tick _ _ | .cbRot _ | .cbBtn _ => true
  | _ => false

/-- What is offered to the core, before it is decoded. -/
inductive Input where
  /-- The bytes of one enable cycle of the chip bus, in the order they are sent (R50, R51). -/
  | bytes (bs : List Byte)
  /-- A remote triple, its three fields already separated by the host (R88). -/
  | triple (r : Triple)
  /-- An operation call or an event, which have no bit pattern (R80, R90, R91). -/
  | call (i : Instr)
  deriving DecidableEq, Repr

end Sys2Proof
end

