-- ==== Sys2Proof/WellFormed.lean ====
section
/-! DEFINITION. Well-formedness: which configurations are admitted (00_scope.md R7, R8), the admitted configurations as
a type, and which instruction terms are in the domain the spec gives their operands. Ill-formed instruction terms still
have a meaning where the spec gives one (D8, U10). -/

namespace Sys2Proof

/-- R7 (1): the four select codes are pairwise distinct. -/
def Cfg.selectsDistinct (c : Cfg) : Bool :=
  decide ([c.selAttL, c.selAttR, c.selGain, c.selStates].Nodup)

/-- R7 (2) and section 4's range of `CA_LSB`: the select codes share no bit with the chip address. -/
def Cfg.selectsClearOfChip (c : Cfg) : Bool :=
  decide (c.caLsb ≤ 5) && decide (c.selMask &&& c.caMask = 0)

/-- R7 (3): the address field lies in bits [6:0]. -/
def Cfg.addressLow (c : Cfg) : Bool := decide (c.addrMask &&& 0xFF80#16 = 0)

/-- One option bit of a data field: inside the 16 bits and outside the address field (R7 (4)). -/
def Cfg.dataBit (c : Cfg) (n : Nat) : Bool := decide (n < 16) && decide ((1#16 <<< n) &&& c.addrMask = 0)

/-- R7 (4): the option bits are placed apart from each other and from the address field. -/
def Cfg.optionsPlaced (c : Cfg) : Bool :=
  c.dataBit c.zcBit && c.dataBit c.linkBit && c.dataBit c.clkBit && c.dataBit c.softstepBit
    && decide (c.gainLsb ≤ 10) && decide ((0x3F#16 <<< c.gainLsb) &&& c.addrMask = 0)
    && decide (c.zcBit ≠ c.linkBit) && decide (c.clkBit ≠ c.softstepBit)
    && !(decide (c.gainLsb ≤ c.zcBit) && decide (c.zcBit ≤ c.gainLsb + 5))
    && !(decide (c.gainLsb ≤ c.linkBit) && decide (c.linkBit ≤ c.gainLsb + 5))

/-- The seven commands under `RC_ADDR_PREAMP`. -/
def Cfg.preampCmds (c : Cfg) : List Nat :=
  [c.cmdSrc1, c.cmdSrc2, c.cmdSrc3, c.cmdSrc4, c.cmdVolUp, c.cmdVolDown, c.cmdMute]

/-- R8: the two addresses and the seven preamplifier commands are distinct; `CMD_PLAY` is free. -/
def Cfg.remoteDistinct (c : Cfg) : Bool :=
  decide (c.rcAddrPreamp ≠ c.rcAddrTransport) && decide c.preampCmds.Nodup

/-- R8: every address fits in `W_ADDR` bits and every command in `W_CMD` bits. -/
def Cfg.remoteFits (c : Cfg) : Bool :=
  decide (c.rcAddrPreamp < 2 ^ c.wAddr) && decide (c.rcAddrTransport < 2 ^ c.wAddr)
    && (c.cmdPlay :: c.preampCmds).all fun k => decide (k < 2 ^ c.wCmd)

/-- `Cfg.wf`: rules R7 and R8 together, the decidable check the spec asks for. -/
def Cfg.wf (c : Cfg) : Bool :=
  c.selectsDistinct && c.selectsClearOfChip && c.addressLow && c.optionsPlaced && c.remoteDistinct && c.remoteFits

/-- A configuration that R7 and R8 admit. "a configuration that fails 00_scope.md rules R7 or R8 is not admitted"
(R203, U8): a record that fails them is no value of this type. -/
structure AdmittedCfg where
  cfg : Cfg
  admitted : cfg.wf = true
  deriving DecidableEq, Repr

/-- REF0 is admitted, whatever the chip address. -/
theorem ref0_wf (ca : BitVec 2) : (ref0 ca).wf = true := by
  show (ref0 0).wf = true
  decide

/-- REF0 with chip address `ca`, admitted. -/
def admittedRef0 (ca : BitVec 2) : AdmittedCfg := ⟨ref0 ca, ref0_wf ca⟩

/-- The domain of volume levels, −447..0 (10_state.md R22). -/
def volInDomain (v : Int) : Bool := decide (volMin ≤ v) && decide (v ≤ volMax)

/-- Whether a pair (address, command) is in a named row of the table of R89. -/
def Cfg.recognised (c : Cfg) (a k : Nat) : Bool :=
  (decide (a = c.rcAddrPreamp) && c.preampCmds.contains k)
    || (decide (a = c.rcAddrTransport) && decide (k = c.cmdPlay))

/-- The operands lie in the domain the spec gives the row: volume levels in −447..0 (R83, R110, R111); `RC_OTHER` only
for a pair no other row names (R148). Every other operand's domain is its type. -/
def Instr.wf (c : Cfg) : Instr → Bool
  | .att v => volInDomain v
  | .setVolume l r => volInDomain l && volInDomain r
  | .attL v => volInDomain v
  | .attR v => volInDomain v
  | .rcOther _ a k => !c.recognised a k
  | .mute | .setGain | .setExternalClock _ | .setZeroCrossing _ | .setLinkChannels _ | .unmute
  | .attLMute | .attRMute | .gain _ _ | .states _
  | .rcSrc1 _ | .rcSrc2 _ | .rcSrc3 _ | .rcSrc4 _ | .rcVolUp _ | .rcVolDown _ | .rcMute _ | .rcPlay _
  | .volUp | .volDown | .selectSource _ _ | .toggleMute | .playCd _ | .rotUp _ | .rotDown _ | .btn _ _ | .timeout
  | .boot _ _ | .tick _ _ | .cbRot _ | .cbBtn _ => true

end Sys2Proof
end

