-- ==== Sys2Proof/Machine/Operands.lean ====
section
/-! DEFINITION. Operand assembly (30_encoding.md R88) and the pure helpers of the rules: the attenuation value, the
packed option registers, the address part, the frame constructor, the bytes of a frame, and the arithmetic of levels and
sources. Everything here is a function of operands and of `Cfg` alone. -/

namespace Sys2Proof

/-! ### Levels (00_scope.md R10) -/

/-- `clamp(x) = max(VOL_MIN, min(VOL_MAX, x))`, R10. -/
def clamp (x : Int) : Int := max volMin (min volMax x)

/-- The signed unit of a direction. -/
def Dir.delta : Dir → Int
  | .up => 1
  | .down => -1

/-- `sign(d)` as a direction, none for 0 (R10, R158). -/
def signDir (d : Int) : Option Dir :=
  if 0 < d then some .up else if d < 0 then some .down else none

/-! ### Sources (10_state.md R23, 43_fsm.md R174) -/

/-- The 1-based index of a source. -/
def Source.index : Source → Nat
  | .phono => 1
  | .media => 2
  | .cd => 3
  | .tuner => 4

/-- The source of an index in 1..4. -/
def Source.ofIndex : Nat → Option Source
  | 1 => some .phono
  | 2 => some .media
  | 3 => some .cd
  | 4 => some .tuner
  | _ => none

/-- `nextSource(s, dir)`, the table of R174: cyclic over 1..4. -/
def nextSource : Source → Dir → Source
  | .phono, .up => .media
  | .media, .up => .cd
  | .cd, .up => .tuner
  | .tuner, .up => .phono
  | .phono, .down => .tuner
  | .media, .down => .phono
  | .cd, .down => .media
  | .tuner, .down => .cd

/-! ### Frame data (40_encoder.md R110, 10_state.md R32, R35) -/

/-- `att(v) = (4096 + (−v × 128)) mod 65536`, R110; total by decision D8. -/
def att (v : Int) : Word := BitVec.ofInt 16 (4096 + (-v * 128))

/-- One raw bit as a 16-bit value. -/
def rawBit (b : Bool) : Word := (BitVec.ofBool b).setWidth 16

/-- `pack_gain`: `(zc_raw << ZC_BIT) | (link << LINK_BIT) | (gain << GAIN_LSB)`, R32. -/
def packGainBits (c : Cfg) (zcRaw link : Bool) (gain : BitVec 6) : Word :=
  (rawBit zcRaw <<< c.zcBit) ||| (rawBit link <<< c.linkBit) ||| (gain.setWidth 16 <<< c.gainLsb)

/-- `pack_dev`: `(clk_raw << CLK_BIT) | (softstep_raw << SOFTSTEP_BIT)`, R35. -/
def packDevBits (c : Cfg) (clkRaw softstepRaw : Bool) : Word :=
  (rawBit clkRaw <<< c.clkBit) ||| (rawBit softstepRaw <<< c.softstepBit)

/-! ### Frames (30_encoding.md R81, R87) -/

/-- `CA << CA_LSB`. -/
def Cfg.chipBits (c : Cfg) : Word := c.ca.setWidth 16 <<< c.caLsb

/-- The address part `sel | (CA << CA_LSB)` (R81, R88). -/
def Cfg.addressPart (c : Cfg) (sel : Word) : Word := sel ||| c.chipBits

/-- `frame(sel, data) = (data | sel | (CA << CA_LSB)) & 0xFFFF`, R87. -/
def frame (c : Cfg) (sel data : Word) : Word := data ||| sel ||| c.chipBits

/-- `w[15:8]` (R9). -/
def highByte (w : Word) : Byte := w.extractLsb' 8 8

/-- `w[7:0]` (R9). -/
def lowByte (w : Word) : Byte := w.extractLsb' 0 8

/-- The bytes of a frame in the order they are sent, the byte of bits 15 to 8 first (R51). -/
def frameBytes (w : Word) : List Byte := [highByte w, lowByte w]

/-- The word of two bytes sent in that order. -/
def wordOfBytes (hi lo : Byte) : Word := hi ++ lo

/-! ### The display's numbers (20_memory.md R63, 00_scope.md R14) -/

/-- The level of volume `v` in hundredths of a decibel: `v × 0.25` dB is `25 × v` hundredths (R14). -/
def hundredthsDb (v : Int) : Int := 25 * v

/-- `SRC_NAME[1..4]`. -/
def Source.name : Source → String
  | .phono => "Phono"
  | .media => "Media"
  | .cd => "CD"
  | .tuner => "Tuner"

end Sys2Proof
end

