-- ==== Sys2Proof/Decode.lean ====
section
/-! DEFINITION. Decoding what is offered to the core, total on any input and rejecting by name, and after it the encoder.
A frame is read by the layout of 30_encoding.md R81 to R87, a remote triple by the table of R89; operations and events
have no bit pattern (R80, R90, R91) and stand for themselves. -/

namespace Sys2Proof

/-- Why an input decodes to no instruction. -/
inductive DecodeError where
  /-- The bytes of one enable cycle are not exactly two: "never 8 bits, never 32" (R53). -/
  | notOneFrame
  /-- The address field is none of the four addresses of this core's chip (R55, R93). -/
  | addressNeverProduced
  /-- Attenuation data with a non-zero bit in [6:0], or a code 1 to 31 or 480 to 511 (R93). -/
  | attenuationNeverProduced
  /-- Gain or states data with a bit other than `ZC_BIT`, `LINK_BIT`, `CLK_BIT` (R93). -/
  | optionsNeverProduced
  /-- A call that names a frame or a remote command: those two formats have an encoding and come in it. -/
  | hasAnEncoding
  deriving DecidableEq, Repr

/-! ### Frames -/

/-- Attenuation data: 0 is the hard-mute code (R86), a code 32..479 in [15:7] is the volume `32 − code` (R83). -/
def decodeAtt (level : Int → Instr) (hardMute : Instr) (data : Word) : Except DecodeError Instr :=
  let code := (data >>> 7).toNat
  if data = 0 then .ok hardMute
  else if data &&& 0x7F#16 = 0 ∧ 32 ≤ code ∧ code ≤ 479 then .ok (level (32 - code))
  else .error .attenuationNeverProduced

/-- Gain data: the two option bits at their positions and nothing else (R84). -/
def decodeGain (c : Cfg) (data : Word) : Except DecodeError Instr :=
  let zcRaw := data.getLsbD c.zcBit
  let link := data.getLsbD c.linkBit
  if data = packGainBits c zcRaw link 0 then .ok (.gain zcRaw link) else .error .optionsNeverProduced

/-- States data: the clock bit at its position and nothing else (R85). -/
def decodeStates (c : Cfg) (data : Word) : Except DecodeError Instr :=
  let clkRaw := data.getLsbD c.clkBit
  if data = packDevBits c clkRaw false then .ok (.states clkRaw) else .error .optionsNeverProduced

/-- A frame word: the address field says which register of which chip, the rest is its data (R81, R82). -/
def decodeWord (c : Cfg) (w : Word) : Except DecodeError Instr :=
  let address := w &&& c.addrMask
  let data := w &&& ~~~c.addrMask
  if address = c.addressPart c.selAttL then decodeAtt .attL .attLMute data
  else if address = c.addressPart c.selAttR then decodeAtt .attR .attRMute data
  else if address = c.addressPart c.selGain then decodeGain c data
  else if address = c.addressPart c.selStates then decodeStates c data
  else .error .addressNeverProduced

/-- The bytes of one enable cycle: exactly one frame, high byte first (R51, R53). -/
def decodeBytes (c : Cfg) : List Byte → Except DecodeError Instr
  | [hi, lo] => decodeWord c (wordOfBytes hi lo)
  | _ => .error .notOneFrame

/-! ### Remote triples -/

/-- `classify(a, c)`, the table of R89; a pair in no row is `none` (R92). -/
def classify (c : Cfg) (a k : Nat) : Option AppEvent :=
  if a = c.rcAddrPreamp then
    if k = c.cmdSrc1 then some (.selectSource .phono)
    else if k = c.cmdSrc2 then some (.selectSource .media)
    else if k = c.cmdSrc3 then some (.selectSource .cd)
    else if k = c.cmdSrc4 then some (.selectSource .tuner)
    else if k = c.cmdVolUp then some (.volumeStep .up)
    else if k = c.cmdVolDown then some (.volumeStep .down)
    else if k = c.cmdMute then some .toggleMute
    else none
  else if a = c.rcAddrTransport then
    if k = c.cmdPlay then some .playCd else none
  else none

/-- The row of a remote triple (R89, R140 to R148). -/
def decodeTriple (c : Cfg) (r : Triple) : Instr :=
  match classify c r.addr r.cmd with
  | some (.selectSource .phono) => .rcSrc1 r.toggle
  | some (.selectSource .media) => .rcSrc2 r.toggle
  | some (.selectSource .cd) => .rcSrc3 r.toggle
  | some (.selectSource .tuner) => .rcSrc4 r.toggle
  | some (.volumeStep .up) => .rcVolUp r.toggle
  | some (.volumeStep .down) => .rcVolDown r.toggle
  | some .toggleMute => .rcMute r.toggle
  | some .playCd => .rcPlay r.toggle
  | none => .rcOther r.toggle r.addr r.cmd

/-! ### Everything offered -/

/-- An operation or an event stands for itself; the two formats with an encoding do not come as calls. -/
def decodeCall (i : Instr) : Except DecodeError Instr :=
  match i.format with
  | .op | .ev => .ok i
  | .frame16 | .rc => .error .hasAnEncoding

/-- The decoder. -/
def decode (c : Cfg) : Input → Except DecodeError Instr
  | .bytes bs => decodeBytes c bs
  | .triple r => .ok (decodeTriple c r)
  | .call i => decodeCall i

/-! ### The encoder -/

/-- The word of a FRAME16 row (R83 to R87). -/
def encodeWord (c : Cfg) : Instr → Option Word
  | .attL v => some (frame c c.selAttL (att v))
  | .attR v => some (frame c c.selAttR (att v))
  | .attLMute => some (frame c c.selAttL 0)
  | .attRMute => some (frame c c.selAttR 0)
  | .gain zcRaw link => some (frame c c.selGain (packGainBits c zcRaw link 0))
  | .states clkRaw => some (frame c c.selStates (packDevBits c clkRaw false))
  | _ => none

/-- The triple of an RC row (R140 to R148). -/
def encodeTriple (c : Cfg) : Instr → Option Triple
  | .rcSrc1 t => some ⟨t, c.rcAddrPreamp, c.cmdSrc1⟩
  | .rcSrc2 t => some ⟨t, c.rcAddrPreamp, c.cmdSrc2⟩
  | .rcSrc3 t => some ⟨t, c.rcAddrPreamp, c.cmdSrc3⟩
  | .rcSrc4 t => some ⟨t, c.rcAddrPreamp, c.cmdSrc4⟩
  | .rcVolUp t => some ⟨t, c.rcAddrPreamp, c.cmdVolUp⟩
  | .rcVolDown t => some ⟨t, c.rcAddrPreamp, c.cmdVolDown⟩
  | .rcMute t => some ⟨t, c.rcAddrPreamp, c.cmdMute⟩
  | .rcPlay t => some ⟨t, c.rcAddrTransport, c.cmdPlay⟩
  | .rcOther t a k => some ⟨t, a, k⟩
  | _ => none

/-- The encoder: a frame as the two bytes it is sent in, a remote command as its triple, the rest by name. -/
def encode (c : Cfg) (i : Instr) : Input :=
  match encodeWord c i, encodeTriple c i with
  | some w, _ => .bytes (frameBytes w)
  | none, some r => .triple r
  | none, none => .call i

/-! ### The opcode table's numbering -/

/-- The configuration in which the table's FRAME16 patterns are written: REF0, the two bits `aa` being `CA` (G1;
log entry 6). -/
def tableCfg (w : Nat) : AdmittedCfg := admittedRef0 (BitVec.ofNat 2 w)

/-- The bytes of a table word: one 16-bit word, high byte first, the bits above `nbits` zero; a wider one stays wider
and is refused, as no frame is wider (R53). -/
def tableBytes (nbits w : Nat) : List Byte :=
  if nbits ≤ 16 then frameBytes (BitVec.ofNat 16 (w % 2 ^ nbits))
  else (List.range ((nbits + 15) / 16)).flatMap fun k => frameBytes (BitVec.ofNat 16 (w / 2 ^ (16 * k)))

/-- What the decoder reads from a word numbered as spec/opcode_table.json numbers it. -/
def decodeTableWord (nbits w : Nat) : Option Instr :=
  match decode (tableCfg w).cfg (.bytes (tableBytes nbits w)) with
  | .ok i => some i
  | .error _ => none

end Sys2Proof
end

