-- ==== Sys2Proof/Machine/State.lean ====
section
/-! DEFINITION. The state of the core as plain data: the twelve named registers of 10_state.md R20, and beside them the
four fields that are the model's own (`config`, `inputs`, `lastNow`, `ret`; log entries 1, 4, 8, 12). The output actions of
20_memory.md, the refusals, and the state after hardware reset (R230). -/

namespace Sys2Proof.Machine

open Sys2Proof

/-! ### Output actions -/

/-- The level of a source-routing line (20_memory.md R57). -/
inductive Level where
  | enable | disable
  deriving DecidableEq, Repr

/-- The two abstract keys of the persisted store (R59). -/
inductive Key where
  | volume | source
  deriving DecidableEq, Repr

/-- A display request (R63). -/
inductive Request where
  | showVolume (v : Int)
  | showSource (n : Source)
  | showMuted
  deriving DecidableEq, Repr

/-- The actions the core drives on its output ports (R50, R57, R61, R63). -/
inductive Action where
  | frameTx (w : Word)
  | routeWrite (n : Source) (lvl : Level)
  | persistWrite (key : Key) (x : Int)
  | display (req : Request)
  | displayFlush
  deriving DecidableEq, Repr

/-- The six steps on the bus that one `FrameTx` stands for (R50). -/
inductive BusStep where
  | busClaim | csLow | byte (b : Byte) | csHigh | busRelease
  deriving DecidableEq, Repr

/-! ### Registers -/

/-- `GOPT`, the gain-option shadow register, raw bits as sent (10_state.md R28 to R32). -/
structure GainOpts where
  zcRaw : Bool
  link : Bool
  gain : BitVec 6
  deriving DecidableEq, Repr

/-- `DOPT`, the device-option shadow register, raw bits as sent (R33 to R35). -/
structure DevOpts where
  clkRaw : Bool
  softstepRaw : Bool
  deriving DecidableEq, Repr

/-- What an instruction hands back to its caller: `att` a word (R110), a remote command the event DEDUP returns (R133).
The model's own port (log entry 8). -/
inductive Ret where
  | nothing
  | word (w : Word)
  | event (e : Option AppEvent)
  deriving DecidableEq, Repr

/-- The state of the core (R20). -/
structure State where
  /-- `VOL`, the volume level (R22). -/
  vol : Int
  /-- `SRC`, the active input source (R23). -/
  src : Source
  /-- `MUTE`, the mute flag (R24). -/
  mute : Bool
  /-- `MODE`, the control mode (R25). -/
  mode : Mode
  /-- `T_ENTRY`, the time of the last entry into SourceSelect or of the last re-arm, in ms (R26). -/
  tEntry : Nat
  /-- `TGL`, the remote toggle tracker: `none`, `seen(0)` or `seen(1)` (R27). -/
  tgl : Option Bool
  /-- `GOPT` (R28). -/
  gopt : GainOpts
  /-- `DOPT` (R33). -/
  dopt : DevOpts
  /-- `ROT`, the rotary event cell, a signed sum (R36). -/
  rot : Int
  /-- `BTN`, the button event cell: `none` or `pending(dur)` (R37). -/
  btn : Option Nat
  /-- `BOOTED` (R38). -/
  booted : Bool
  /-- `OUT`, the output trace, oldest action first (R39). -/
  out : List Action
  /-- The configuration this core is built with; no step changes it (R43; log entry 1). -/
  config : AdmittedCfg
  /-- What is offered to the core, the next first: the plain data that says which agent moves next (log entry 4). -/
  inputs : List Input
  /-- The clock sample of the last tick, kept to tell a clock that runs backwards (R69 H-2; log entry 12). -/
  lastNow : Nat
  /-- What the last instruction with a result handed back (log entry 8). -/
  ret : Ret
  deriving DecidableEq, Repr

/-- The core's configuration as numbers. -/
abbrev State.cfg (s : State) : Cfg := s.config.cfg

/-! ### Stops -/

/-- The core raises no fault of any kind (60_exceptions.md R200), so this type has no constructor. -/
inductive Fault where
  deriving DecidableEq, Repr

/-- Why a step is refused. All are safe: the model stops where the spec says there is no step or no such input. -/
inductive Refusal where
  /-- An instruction without a meaning yet; no arm of `exec` raises it. Safe. -/
  | notModelled (mnemonic : String)
  /-- A tick while `BOOTED = 0`, raised by `execTick`: "have no step" (R203, D25, U9). Safe. -/
  | tickBeforeBoot
  /-- A boot step while `BOOTED = 1`, raised by `execBoot`: "have no step" (R203, D25, U9). Safe. -/
  | bootTwice
  /-- A tick whose clock sample lies before the previous one's, raised by `execTick`: no move of the host (R69 H-2, U4).
  Safe. -/
  | clockRanBackwards
  /-- An offered input that is no encoding of an instruction, raised by `step` (R53, R93). Safe. -/
  | undecodable (e : DecodeError)
  deriving DecidableEq, Repr

/-! ### Reset -/

/-- The state after hardware reset (R230, R41): `BOOTED = 0`, `OUT` empty, `ROT = 0`, `BTN` none, the two hard-wired
fields 0. Every other register is "unspecified until boot"; it stands here at the value the boot step gives it with an
empty store, `T_ENTRY` at 0. DESIGN CHOICE, unsafe (log entry 3). `config` is REF0 with chip address 0, PRESUMED, unsafe
(log entry 1). Nothing is offered (log entry 5). -/
def State.reset : State where
  vol := defaultVol
  src := .phono
  mute := false
  mode := .run
  tEntry := 0
  tgl := none
  gopt := ⟨false, false, 0⟩
  dopt := ⟨true, false⟩
  rot := 0
  btn := none
  booted := false
  out := []
  config := admittedRef0 0
  inputs := []
  lastNow := 0
  ret := .nothing

end Sys2Proof.Machine
end

