-- ==== Sys2Proof/Machine/Flags.lean ====
section
/-! DEFINITION. The predicates that steer the core (10_state.md R40). It has no arithmetic condition codes; the status bits
are `MUTE`, `MODE`, `BOOTED`, the valid part of `TGL`, the pending part of `BTN` and the non-zero test of `ROT`. -/

namespace Sys2Proof.Machine

open Sys2Proof

/-- `isnew` of R132: no toggle bit observed yet, or the observed one differs from `t`. Reads the OLD `TGL`. -/
def isNew (s : State) (t : Bool) : Bool :=
  match s.tgl with
  | none => true
  | some u => u != t

/-- The continuous class: volume steps, which repeat while a key is held (R136). Every other event is one-shot (R135). -/
def continuous : AppEvent → Bool
  | .volumeStep _ => true
  | .selectSource _ | .toggleMute | .playCd => false

/-- `ROT` is pending (R206). -/
def rotPending (s : State) : Bool := decide (s.rot ≠ 0)

/-- `BTN` is pending (R206). -/
def btnPending (s : State) : Bool := s.btn.isSome

/-- The timeout test of phase 0 (R152): `MODE = SourceSelect and now − T_ENTRY ≥ 5000`. -/
def timeoutDue (s : State) (now : Nat) : Bool :=
  decide (s.mode = .sourceSelect) && decide (tSelect ≤ now - s.tEntry)

/-- The guard of R179: `MODE = Run and dur > 50`. -/
def pressQualifies (s : State) (dur : Nat) : Bool := decide (s.mode = .run) && decide (tPress < dur)

/-- The host's clock duty H-2 (R69): `now` is not less than the previous tick's, nor than a running timer's start, so that
`now − T_ENTRY` never underflows (R187). -/
def clockOk (s : State) (now : Nat) : Bool :=
  decide (s.lastNow ≤ now) && (decide (s.mode = .run) || decide (s.tEntry ≤ now))

end Sys2Proof.Machine
end

