-- ==== Sys2Proof/Machine/Ops.lean ====
section
/-! DEFINITION. The shared operations: emitting actions, the encoder's frames, the toggle tracker, the takes of the event
cells, and the procedures of the state machine, each after its rule's pseudocode.

Taking an exception: the core has none, no cause, no vector, no return (60_exceptions.md R200, R207, R208, R211). Its
interrupt-like inputs are the two callbacks, which write their cell and nothing else (42_aggregator.md R155). The core has
no memory either (20_memory.md); what stands for it is `OUT`. -/

namespace Sys2Proof.Machine

open Sys2Proof

/-! ### Output -/

/-- `emit` each action of a list in order: appended to `OUT`, never removed or reordered (00_scope.md R11, R39). -/
def emit (as : List Action) (s : State) : State := { s with out := s.out ++ as }

/-- What one action looks like on the chip bus: a frame is claim, enable low, two bytes, enable high, release (R50). -/
def Action.busSteps : Action → List BusStep
  | .frameTx w => [.busClaim, .csLow, .byte (highByte w), .byte (lowByte w), .csHigh, .busRelease]
  | .routeWrite _ _ | .persistWrite _ _ | .display _ | .displayFlush => []

/-- Everything the core drove on the chip bus so far. -/
def State.busTrace (s : State) : List BusStep := s.out.flatMap Action.busSteps

/-! ### Encoder (40_encoder.md) -/

/-- `pack_gain(GOPT)`, R32. -/
def packGain (c : Cfg) (g : GainOpts) : Word := packGainBits c g.zcRaw g.link g.gain

/-- `pack_dev(DOPT)`, R35. -/
def packDev (c : Cfg) (d : DevOpts) : Word := packDevBits c d.clkRaw d.softstepRaw

/-- The pair of attenuation frames with the given data, left then right (R111, R112). -/
def attPair (c : Cfg) (left right : Word) : List Action :=
  [.frameTx (frame c c.selAttL left), .frameTx (frame c c.selAttR right)]

/-- `setVolume(left, right)`, R111. -/
def setVolume (left right : Int) (s : State) : State := emit (attPair s.cfg (att left) (att right)) s

/-- `mute()` of the encoder, the hard-mute pair, R112. -/
def hardMute (s : State) : State := emit (attPair s.cfg 0 0) s

/-- The whole gain register, R84, R118. -/
def sendGain (s : State) : State := emit [.frameTx (frame s.cfg s.cfg.selGain (packGain s.cfg s.gopt))] s

/-- The whole states register, R85, R118. -/
def sendStates (s : State) : State := emit [.frameTx (frame s.cfg s.cfg.selStates (packDev s.cfg s.dopt))] s

/-- The first line of `setExternalClock(enabled)`, R114: the clock bit, inverted, and no other field (R118). -/
def storeExternalClock (enabled : Bool) (s : State) : State := { s with dopt := { s.dopt with clkRaw := !enabled } }

/-- The first line of `setZeroCrossing(enabled)`, R115: the zero-crossing bit, inverted, and no other field (R118). -/
def storeZeroCrossing (enabled : Bool) (s : State) : State := { s with gopt := { s.gopt with zcRaw := !enabled } }

/-- The first line of `setLinkChannels(enabled)`, R116: the link bit, plain (D4), and no other field (R118). -/
def storeLinkChannels (enabled : Bool) (s : State) : State := { s with gopt := { s.gopt with link := enabled } }

/-- `setExternalClock(enabled)`, R114: the store, then the whole register. -/
def setExternalClock (enabled : Bool) (s : State) : State := sendStates (storeExternalClock enabled s)

/-- `setZeroCrossing(enabled)`, R115: the store, then the whole register. -/
def setZeroCrossing (enabled : Bool) (s : State) : State := sendGain (storeZeroCrossing enabled s)

/-- `setLinkChannels(enabled)`, R116: the store, then the whole register. -/
def setLinkChannels (enabled : Bool) (s : State) : State := sendGain (storeLinkChannels enabled s)

/-! ### Deduplicator (41_remote_dedup.md R133) -/

/-- The event `Dedup` returns for a triple with toggle `t` that classifies to `ev`; reads the OLD `TGL`. -/
def dedupEvent (t : Bool) (ev : Option AppEvent) (s : State) : Option AppEvent :=
  match ev with
  | none => none
  | some e => if continuous e || isNew s t then some e else none

/-- The tracker update, unconditional (R134). -/
def track (t : Bool) (s : State) : State := { s with tgl := some t }

/-- `Dedup` as a block of its own: the event goes back to the caller (R133). -/
def dedup (t : Bool) (ev : Option AppEvent) (s : State) : State :=
  { track t s with ret := .event (dedupEvent t ev s) }

/-! ### State machine (43_fsm.md) -/

/-- `Unmute()`, R182. -/
def unmute (s : State) : State :=
  emit [.display (.showVolume s.vol), .displayFlush] (setVolume s.vol s.vol { s with mute := false })

/-- The commit of a new level: the last five lines of R172 and R173. -/
def commitVolume (new : Int) (s : State) : State :=
  if new = s.vol then s
  else
    emit [.persistWrite .volume new, .display (.showVolume new), .displayFlush] (setVolume new new { s with vol := new })

/-- `VolumeUp()` and `VolumeDown()`, R172 and R173. -/
def volumeStep (d : Dir) (s : State) : State :=
  let s := if s.mute then unmute s else s
  commitVolume (clamp (s.vol + d.delta)) s

/-- The part of `SourceChange` that runs when the source is another one: break, make, re-mute, persist, show (R175). -/
def commitSource (new : Source) (s : State) : State :=
  let s := emit [.routeWrite s.src .disable, .routeWrite new .enable] s
  let s := { s with src := new }
  let s := if s.mute then hardMute s else s
  let s := emit [.persistWrite .source new.index, .display (.showSource new)] s
  let s := if s.mute then emit [.display .showMuted] s else s
  emit [.displayFlush] s

/-- The last line of `SourceChange`: re-arm in SourceSelect (R175). -/
def rearm (now : Nat) (s : State) : State :=
  if s.mode = .sourceSelect then { s with tEntry := now } else s

/-- `SourceChange(new, now)`, R175. -/
def sourceChange (new : Source) (now : Nat) (s : State) : State :=
  rearm now (if new = s.src then s else commitSource new s)

/-- `Rotary(dir, now)`, R178. -/
def rotary (d : Dir) (now : Nat) (s : State) : State :=
  match s.mode with
  | .run => volumeStep d s
  | .sourceSelect => sourceChange (nextSource s.src d) now s

/-- `Button(dur, now)`, R179. -/
def button (dur now : Nat) (s : State) : State :=
  if pressQualifies s dur then { s with mode := .sourceSelect, tEntry := now } else s

/-- `Timeout()`, R180. -/
def timeout (s : State) : State := { s with mode := .run }

/-- `ToggleMute()`, R181. -/
def toggleMute (s : State) : State :=
  if s.mute then unmute s
  else emit [.display .showMuted, .displayFlush] (hardMute { s with mute := true })

/-- `PlayCD(now)`, R183. -/
def playCd (now : Nat) (s : State) : State :=
  let s := sourceChange .cd now s
  if s.mute then unmute s else s

/-- `Apply(ev, now)`, R177. -/
def apply (e : AppEvent) (now : Nat) (s : State) : State :=
  match e with
  | .volumeStep d => volumeStep d s
  | .selectSource n => sourceChange n now s
  | .toggleMute => toggleMute s
  | .playCd => playCd now s

/-! ### The takes (42_aggregator.md R158, R159) -/

/-- The clearing half of `TakeRot()`; the value taken is `s.rot`. -/
def clearRot (s : State) : State := { s with rot := 0 }

/-- The clearing half of `TakeBtn()`; the value taken is `s.btn`. -/
def clearBtn (s : State) : State := { s with btn := none }

/-! ### The phases of a tick (R151) -/

/-- Phase 0, the timeout test (R152). -/
def phaseTimeout (now : Nat) (s : State) : State := if timeoutDue s now then timeout s else s

/-- Phase 1, the remote: deduplicate, then apply at once (R151, R153). -/
def phaseRemote (now : Nat) (rc : Option Triple) (s : State) : State :=
  match rc with
  | none => s
  | some r =>
    match dedupEvent r.toggle (classify s.cfg r.addr r.cmd) s with
    | none => track r.toggle s
    | some e => apply e now (track r.toggle s)

/-- Phase 2, the rotary cell: one step of the sign of what was taken (R158). -/
def phaseRotary (now : Nat) (s : State) : State :=
  match signDir s.rot with
  | none => clearRot s
  | some d => rotary d now (clearRot s)

/-- Phase 3, the button cell (R159). -/
def phaseButton (now : Nat) (s : State) : State :=
  match s.btn with
  | none => clearBtn s
  | some dur => button dur now (clearBtn s)

/-- `Tick(now, rc)`: the four phases in their order (R151). -/
def tick (now : Nat) (rc : Option Triple) (s : State) : State :=
  phaseButton now (phaseRotary now (phaseRemote now rc (phaseTimeout now s)))

/-! ### Boot (70_reset_and_hazards.md R232, R233) -/

/-- The level boot loads: the stored one if in range, else the default (R232). -/
def bootVol (pv : Option Int) : Int :=
  match pv with
  | some x => if volMin ≤ x ∧ x ≤ volMax then x else defaultVol
  | none => defaultVol

/-- The source boot loads: the stored one if in 1..4, else source 1 (R232). -/
def bootSrc (ps : Option Nat) : Source :=
  match ps with
  | some y => (Source.ofIndex y).getD .phono
  | none => .phono

/-- The registers boot writes (R232); `T_ENTRY`, `ROT` and `BTN` are not touched. -/
def bootRegisters (pv : Option Int) (ps : Option Nat) (s : State) : State :=
  { s with
    vol := bootVol pv
    src := bootSrc ps
    mute := false
    mode := .run
    tgl := none
    gopt := ⟨false, false, 0⟩
    dopt := ⟨true, false⟩ }

/-- The outputs of boot, in the order of R233. -/
def bootOutputs (s : State) : State :=
  let s := sendGain (sendStates s)
  let s := emit [.routeWrite .phono .disable, .routeWrite .media .disable, .routeWrite .cd .disable,
    .routeWrite .tuner .disable, .routeWrite s.src .enable] s
  let s := setVolume s.vol s.vol s
  emit [.display (.showSource s.src), .display (.showVolume s.vol), .displayFlush] s

/-- `Boot(pv, ps)`, R232 and R233. -/
def boot (pv : Option Int) (ps : Option Nat) (s : State) : State :=
  { bootOutputs (bootRegisters pv ps s) with booted := true }

end Sys2Proof.Machine
end

