-- ==== Sys2Proof/Machine/Encoder.lean ====
section
/-! DEFINITION. The meanings of the OP rows: the operations of the register encoder (40_encoder.md). ENC accepts each at any
time and from any shadow state (R109, D30), so none looks at `BOOTED`. -/

namespace Sys2Proof.Machine

open Sys2Proof

/-- The outcome type of every meaning. -/
abbrev Result := Host.Outcome State Fault Refusal

/-- `att(v)`, R110: pure; the value goes back to the caller. -/
def execAtt (v : Int) (s : State) : Result := .next { s with ret := .word (att v) }

/-- `setVolume(left, right)`, R111. -/
def execSetVolume (left right : Int) (s : State) : Result := .next (setVolume left right s)

/-- `mute()`, R112: the hard-mute pair; the flag `MUTE` is the state machine's. -/
def execMute (s : State) : Result := .next (hardMute s)

/-- `setGain()`, R113. -/
def execSetGain (s : State) : Result := .next (sendGain s)

/-- `setExternalClock(enabled)`, R114. -/
def execSetExternalClock (enabled : Bool) (s : State) : Result := .next (setExternalClock enabled s)

/-- `setZeroCrossing(enabled)`, R115. -/
def execSetZeroCrossing (enabled : Bool) (s : State) : Result := .next (setZeroCrossing enabled s)

/-- `setLinkChannels(enabled)`, R116. -/
def execSetLinkChannels (enabled : Bool) (s : State) : Result := .next (setLinkChannels enabled s)

/-- `unmute()`, R117: `setVolume(VOL, VOL)`. -/
def execUnmute (s : State) : Result := .next (setVolume s.vol s.vol s)

end Sys2Proof.Machine
end

