-- ==== Sys2Proof/Machine/Agents.lean ====
section
/-! DEFINITION. The meanings of the EV rows that are the steps of the two agents: `boot` and `tick` of CORE
(70_reset_and_hazards.md R231 to R233, 42_aggregator.md R150, R151), the two callbacks of ISR (R155 to R157). -/

namespace Sys2Proof.Machine

open Sys2Proof

/-- `Boot(pv, ps)`, R231 to R233: enabled only when `BOOTED = 0`. -/
def execBoot (pv : Option Int) (ps : Option Nat) (s : State) : Result :=
  if s.booted then .refused .bootTwice else .next (boot pv ps s)

/-- `Tick(now, rc)`, R150, R151: enabled only when `BOOTED = 1`, and only with a clock that meets H-2 (R69). -/
def execTick (now : Nat) (rc : Option Triple) (s : State) : Result :=
  if !s.booted then .refused .tickBeforeBoot
  else if !clockOk s now then .refused .clockRanBackwards
  else .next { tick now rc s with lastNow := now }

/-- `RotCallback(d)`, R156: the deltas add up. -/
def execCbRot (d : Int) (s : State) : Result := .next { s with rot := s.rot + d }

/-- `BtnCallback(dur)`, R157: the latest press is kept. -/
def execCbBtn (dur : Nat) (s : State) : Result := .next { s with btn := some dur }

end Sys2Proof.Machine
end

