-- ==== Sys2Proof/Machine/Events.lean ====
section
/-! DEFINITION. The meanings of the EV rows the state machine applies (43_fsm.md). Each is its rule's pseudocode, from any
state (log entry 7). -/

namespace Sys2Proof.Machine

open Sys2Proof

/-- `VolumeStep(+1)`, R172. -/
def execVolUp (s : State) : Result := .next (volumeStep .up s)

/-- `VolumeStep(−1)`, R173. -/
def execVolDown (s : State) : Result := .next (volumeStep .down s)

/-- `SelectSource(n)`, R176. -/
def execSelectSource (n : Source) (now : Nat) (s : State) : Result := .next (sourceChange n now s)

/-- `ToggleMute`, R181. -/
def execToggleMute (s : State) : Result := .next (toggleMute s)

/-- `PlayCD`, R183. -/
def execPlayCd (now : Nat) (s : State) : Result := .next (playCd now s)

/-- `Rotary(+1)`, R178. -/
def execRotUp (now : Nat) (s : State) : Result := .next (rotary .up now s)

/-- `Rotary(−1)`, R178. -/
def execRotDown (now : Nat) (s : State) : Result := .next (rotary .down now s)

/-- `Button(dur)`, R179. -/
def execBtn (dur now : Nat) (s : State) : Result := .next (button dur now s)

/-- `Timeout`, R180: `MODE <- Run`; the guard is the tick's (R152). -/
def execTimeout (s : State) : Result := .next (timeout s)

end Sys2Proof.Machine
end

