-- ==== Sys2Proof/Machine/Frames.lean ====
section
/-! DEFINITION. The meanings of the FRAME16 rows: to run a frame is to send it, one `FrameTx` (20_memory.md R50, R54; log entry
10). The chip is outside the core. The rows `GAIN` and `STATES` have no operand of their own: the table reads their option bits
from `GOPT` and `DOPT`, and every such frame carries the whole current shadow (40_encoder.md R118), which only the setters
and boot write (10_state.md R20, R28). So the bits of the word only name it among the frames of its kind; to run it sends the
shadow and writes no register. -/

namespace Sys2Proof.Machine

open Sys2Proof

/-- Send one attenuation frame of the given register. -/
def sendFrame (sel : Cfg → Word) (data : Word) (s : State) : Result :=
  .next (emit [.frameTx (frame s.cfg (sel s.cfg) data)] s)

/-- `ATT_L`, R83. -/
def execAttL (v : Int) (s : State) : Result := sendFrame Cfg.selAttL (att v) s

/-- `ATT_R`, R83. -/
def execAttR (v : Int) (s : State) : Result := sendFrame Cfg.selAttR (att v) s

/-- `ATT_L_MUTE`, R86. -/
def execAttLMute (s : State) : Result := sendFrame Cfg.selAttL 0 s

/-- `ATT_R_MUTE`, R86. -/
def execAttRMute (s : State) : Result := sendFrame Cfg.selAttR 0 s

/-- `GAIN`, R84, R118: the frame of `GOPT` as it stands. -/
def execGain (_zcRaw _link : Bool) (s : State) : Result := .next (sendGain s)

/-- `STATES`, R85, R118: the frame of `DOPT` as it stands. -/
def execStates (_clkRaw : Bool) (s : State) : Result := .next (sendStates s)

end Sys2Proof.Machine
end

