-- ==== Sys2Proof/Machine/Remote.lean ====
section
/-! DEFINITION. The meanings of the RC rows: the deduplicator's procedure on one received triple, which returns an event to
its caller and updates `TGL` (41_remote_dedup.md R133, R140 to R148). Applying the event is the tick's (R151; log entry 9). -/

namespace Sys2Proof.Machine

open Sys2Proof

/-- `RC_SRC1`, R140. -/
def execRcSrc1 (t : Bool) (s : State) : Result := .next (dedup t (some (.selectSource .phono)) s)

/-- `RC_SRC2`, R141. -/
def execRcSrc2 (t : Bool) (s : State) : Result := .next (dedup t (some (.selectSource .media)) s)

/-- `RC_SRC3`, R142. -/
def execRcSrc3 (t : Bool) (s : State) : Result := .next (dedup t (some (.selectSource .cd)) s)

/-- `RC_SRC4`, R143. -/
def execRcSrc4 (t : Bool) (s : State) : Result := .next (dedup t (some (.selectSource .tuner)) s)

/-- `RC_VOL_UP`, R144. -/
def execRcVolUp (t : Bool) (s : State) : Result := .next (dedup t (some (.volumeStep .up)) s)

/-- `RC_VOL_DOWN`, R145. -/
def execRcVolDown (t : Bool) (s : State) : Result := .next (dedup t (some (.volumeStep .down)) s)

/-- `RC_MUTE`, R146. -/
def execRcMute (t : Bool) (s : State) : Result := .next (dedup t (some .toggleMute) s)

/-- `RC_PLAY`, R147. -/
def execRcPlay (t : Bool) (s : State) : Result := .next (dedup t (some .playCd) s)

/-- `RC_OTHER`, R148: `Dedup` of the pair as it classifies, which for a pair of this row is `none` (log entry 28). -/
def execRcOther (t : Bool) (a k : Nat) (s : State) : Result := .next (dedup t (classify s.cfg a k) s)

end Sys2Proof.Machine
end

