-- ==== Sys2Proof/Machine/Dispatch.lean ====
section
/-! DEFINITION. One arm per row of the opcode table. -/

namespace Sys2Proof.Machine

open Sys2Proof

def exec (i : Instr) (s : State) : Host.Outcome State Fault Refusal :=
  match i with
  -- OP
  | .att v => Sys2Proof.Machine.execAtt v s
  | .setVolume left right => Sys2Proof.Machine.execSetVolume left right s
  | .mute => Sys2Proof.Machine.execMute s
  | .setGain => Sys2Proof.Machine.execSetGain s
  | .setExternalClock enabled => Sys2Proof.Machine.execSetExternalClock enabled s
  | .setZeroCrossing enabled => Sys2Proof.Machine.execSetZeroCrossing enabled s
  | .setLinkChannels enabled => Sys2Proof.Machine.execSetLinkChannels enabled s
  | .unmute => Sys2Proof.Machine.execUnmute s
  -- FRAME16
  | .attL v => Sys2Proof.Machine.execAttL v s
  | .attR v => Sys2Proof.Machine.execAttR v s
  | .attLMute => Sys2Proof.Machine.execAttLMute s
  | .attRMute => Sys2Proof.Machine.execAttRMute s
  | .gain zcRaw link => Sys2Proof.Machine.execGain zcRaw link s
  | .states clkRaw => Sys2Proof.Machine.execStates clkRaw s
  -- RC
  | .rcSrc1 t => Sys2Proof.Machine.execRcSrc1 t s
  | .rcSrc2 t => Sys2Proof.Machine.execRcSrc2 t s
  | .rcSrc3 t => Sys2Proof.Machine.execRcSrc3 t s
  | .rcSrc4 t => Sys2Proof.Machine.execRcSrc4 t s
  | .rcVolUp t => Sys2Proof.Machine.execRcVolUp t s
  | .rcVolDown t => Sys2Proof.Machine.execRcVolDown t s
  | .rcMute t => Sys2Proof.Machine.execRcMute t s
  | .rcPlay t => Sys2Proof.Machine.execRcPlay t s
  | .rcOther t a k => Sys2Proof.Machine.execRcOther t a k s
  -- EV, the state machine's
  | .volUp => Sys2Proof.Machine.execVolUp s
  | .volDown => Sys2Proof.Machine.execVolDown s
  | .selectSource n now => Sys2Proof.Machine.execSelectSource n now s
  | .toggleMute => Sys2Proof.Machine.execToggleMute s
  | .playCd now => Sys2Proof.Machine.execPlayCd now s
  | .rotUp now => Sys2Proof.Machine.execRotUp now s
  | .rotDown now => Sys2Proof.Machine.execRotDown now s
  | .btn dur now => Sys2Proof.Machine.execBtn dur now s
  | .timeout => Sys2Proof.Machine.execTimeout s
  -- EV, the agents' steps
  | .boot pv ps => Sys2Proof.Machine.execBoot pv ps s
  | .tick now rc => Sys2Proof.Machine.execTick now rc s
  | .cbRot d => Sys2Proof.Machine.execCbRot d s
  | .cbBtn dur => Sys2Proof.Machine.execCbBtn dur s

end Sys2Proof.Machine
end

