-- ==== Sys2Proof/Machine/Step.lean ====
section
/-! DEFINITION. One step of the machine: take the next offered input, decode it, run it. The core fetches no instructions
(10_state.md R21, 20_memory.md R68); what it runs next is what the outside offers next (log entries 4 and 5). -/

namespace Sys2Proof.Machine

open Sys2Proof

/-- One step. With nothing offered the core rests unchanged: it acts only on a boot, a tick or a callback (R237, R250). -/
def step (s : State) : Host.Outcome State Fault Refusal :=
  match s.inputs with
  | [] => .next s
  | x :: rest =>
    match decode s.cfg x with
    | .ok i => exec i { s with inputs := rest }
    | .error e => .refused (.undecodable e)

/-- `s` with a word of the opcode table offered next, in the configuration the table is written in (log entry 6). -/
def State.withFetchWord (s : State) (nbits w : Nat) : State :=
  { s with config := tableCfg w, inputs := .bytes (tableBytes nbits w) :: s.inputs }

end Sys2Proof.Machine
end

