-- ==== Sys2Proof/Safety.lean ====
section
/-! DEFINITION. What a correct run of the integrated core looks like, as predicates over a state and its output trace: the
invariants of 10_state.md R42, break-before-make (R58, R240), left before right (R242), the timer (R187), and the readings
of `OUT` they use. Nothing here is read by the machine. -/

namespace Sys2Proof.Machine

open Sys2Proof

/-! ### Readings of the output trace -/

/-- One action's effect on the level last written to routing line `n`. -/
def routeWritten (n : Source) (acc : Option Level) : Action → Option Level
  | .routeWrite m lvl => if m = n then some lvl else acc
  | .frameTx _ | .persistWrite _ _ | .display _ | .displayFlush => acc

/-- The level last written to routing line `n`, if any. -/
def lastRoute (n : Source) (out : List Action) : Option Level := out.foldl (routeWritten n) none

/-- One action's effect on the value last stored under a key. -/
def persisted (key : Key) (acc : Option Int) : Action → Option Int
  | .persistWrite k x => if k = key then some x else acc
  | .frameTx _ | .routeWrite _ _ | .display _ | .displayFlush => acc

/-- The value last stored under a key, if any. -/
def lastPersist (key : Key) (out : List Action) : Option Int := out.foldl (persisted key) none

/-- One action's effect on the frame last sent to the chip register of a select code. -/
def frameSentTo (c : Cfg) (sel : Word) (acc : Option Word) : Action → Option Word
  | .frameTx w => if w &&& c.addrMask = c.addressPart sel then some w else acc
  | .routeWrite _ _ | .persistWrite _ _ | .display _ | .displayFlush => acc

/-- The frame last sent to the chip register of a select code, if any. -/
def lastFrameTo (c : Cfg) (sel : Word) (out : List Action) : Option Word := out.foldl (frameSentTo c sel) none

/-- Replaying routing writes: the lines that may be enabled, and whether no line was ever enabled beside another. -/
structure RouteScan where
  maybeOn : List Source
  exclusive : Bool
  deriving DecidableEq, Repr

/-- At power-on any line may be enabled (D28: "an unknown state"). -/
def RouteScan.start : RouteScan := ⟨[.phono, .media, .cd, .tuner], true⟩

/-- One action of the replay. -/
def RouteScan.next (p : RouteScan) : Action → RouteScan
  | .routeWrite n .disable => ⟨p.maybeOn.filter fun m => decide (m ≠ n), p.exclusive⟩
  | .routeWrite n .enable =>
    ⟨n :: p.maybeOn.filter fun m => decide (m ≠ n), p.exclusive && p.maybeOn.all fun m => decide (m = n)⟩
  | .frameTx _ | .persistWrite _ _ | .display _ | .displayFlush => p

/-- The replay of a whole trace. -/
def routeScan (out : List Action) : RouteScan := out.foldl RouteScan.next .start

/-- Replaying attenuation frames: the data of a left frame still waiting for its right one, and whether every left frame
so far was followed at once by the right frame with the same data. -/
structure PairScan where
  waiting : Option Word
  paired : Bool
  deriving DecidableEq, Repr

/-- One action of the replay. -/
def PairScan.next (c : Cfg) (p : PairScan) (a : Action) : PairScan :=
  match p.waiting, a with
  | some data, .frameTx w => ⟨none, p.paired && decide (w = frame c c.selAttR data)⟩
  | some _, .routeWrite _ _ | some _, .persistWrite _ _ | some _, .display _ | some _, .displayFlush => ⟨none, false⟩
  | none, .frameTx w =>
    if w &&& c.addrMask = c.addressPart c.selAttL then ⟨some (w &&& ~~~c.addrMask), p.paired⟩
    else ⟨none, p.paired && decide (w &&& c.addrMask ≠ c.addressPart c.selAttR)⟩
  | none, .routeWrite _ _ | none, .persistWrite _ _ | none, .display _ | none, .displayFlush => p

/-- The replay of a whole trace. -/
def pairScan (c : Cfg) (out : List Action) : PairScan := out.foldl (PairScan.next c) ⟨none, true⟩

/-- The events DEDUP returns for a sequence of received triples, in order (41_remote_dedup.md R133). -/
def dedupEvents : List Triple → State → List AppEvent
  | [], _ => []
  | r :: rs, s =>
    (dedupEvent r.toggle (classify s.cfg r.addr r.cmd) s).toList ++ dedupEvents rs (track r.toggle s)

/-- The instruction that applies an application event (43_fsm.md R177). -/
def appInstr (e : AppEvent) (now : Nat) : Instr :=
  match e with
  | .selectSource n => .selectSource n now
  | .volumeStep .up => .volUp
  | .volumeStep .down => .volDown
  | .toggleMute => .toggleMute
  | .playCd => .playCd now

/-! ### Invariants -/

/-- The input is a step of an agent of the integrated core: a boot, a tick or a callback (R98, R230). -/
def isAgentInput : Input → Bool
  | .call i => i.isAgentStep
  | .bytes _ | .triple _ => false

/-- Only the two agents move in what is still to come. -/
def AgentsOnly (s : State) : Prop := ∀ x ∈ s.inputs, isAgentInput x = true

/-- R42 (I-a) and (I-c), the part every instruction keeps: the level in range, the hard-wired fields 0. -/
structure LevelInv (s : State) : Prop where
  volLow : -447 ≤ s.vol
  volHigh : s.vol ≤ 0
  gainZero : s.gopt.gain = 0
  softstepZero : s.dopt.softstepRaw = false

/-- R42 (I-a) to (I-f), after boot. -/
structure Settled (s : State) : Prop where
  /-- (I-a) -/
  volRange : -447 ≤ s.vol ∧ s.vol ≤ 0
  /-- (I-b) -/
  srcRange : 1 ≤ s.src.index ∧ s.src.index ≤ 4
  /-- (I-c) -/
  hardwired : s.gopt.gain = 0 ∧ s.dopt.softstepRaw = false
  /-- (I-d) -/
  routed : ∀ n, lastRoute n s.out = some (if n = s.src then .enable else .disable)
  /-- (I-e), left -/
  attenuatedL : lastFrameTo s.cfg s.cfg.selAttL s.out =
    some (frame s.cfg s.cfg.selAttL (if s.mute then 0 else att s.vol))
  /-- (I-e), right -/
  attenuatedR : lastFrameTo s.cfg s.cfg.selAttR s.out =
    some (frame s.cfg s.cfg.selAttR (if s.mute then 0 else att s.vol))
  /-- (I-f), the level -/
  storedVol : ∀ x, lastPersist .volume s.out = some x → x = s.vol
  /-- (I-f), the source -/
  storedSrc : ∀ x, lastPersist .source s.out = some x → x = s.src.index

/-- R42 for the integrated core: nothing is emitted before boot, and from boot on the outside agrees with the registers. -/
structure CoreInv (s : State) : Prop where
  agentsOnly : AgentsOnly s
  silentBeforeBoot : s.booted = false → s.out = []
  settled : s.booted = true → Settled s

/-- R58: no two routing lines are ever enabled at once, and after boot the one that is is line `SRC`. -/
structure RoutingInv (s : State) : Prop where
  agentsOnly : AgentsOnly s
  silentBeforeBoot : s.booted = false → s.out = []
  exclusive : s.booted = true → routeScan s.out = ⟨[s.src], true⟩

/-- R242: every left attenuation frame is followed at once by the right one with the same data. -/
structure PairsInv (s : State) : Prop where
  agentsOnly : AgentsOnly s
  paired : pairScan s.cfg s.out = ⟨none, true⟩

/-- R187: a running timer started no later than the last clock sample, so `now − T_ENTRY` never underflows. -/
structure TimerInv (s : State) : Prop where
  agentsOnly : AgentsOnly s
  started : s.booted = true → s.mode = .sourceSelect → s.tEntry ≤ s.lastNow

end Sys2Proof.Machine
end

