-- ==== Sys2Proof/Certificates/Slice0/Obligations.lean ====
section
/-! DEFINITION. The statements about the model, after the numbered rules of the spec. Each docstring names the rule or section
it formalises; where a clause is a decision of the spec or of the model it says so. -/

open Sys2Proof Sys2Proof.Machine

/-! ### Encoding and decoding -/

/-- 30_encoding.md sections 2 and 4: decoding the encoding of a well-formed instruction gives it back, in every admitted
configuration and with every operand. -/
def Obligations.DecodeOfEncodeIsTheInstruction : Prop :=
  ∀ (a : AdmittedCfg) (i : Instr), i.wf a.cfg = true → decode a.cfg (encode a.cfg i) = .ok i

/-- 30_encoding.md sections 2 and 4, the other way: an input that decodes is the encoding of what it decodes to, so no
two inputs mean the same instruction and nothing in an input is ignored. -/
def Obligations.EncodeOfDecodeIsTheInput : Prop :=
  ∀ (a : AdmittedCfg) (x : Input) (i : Instr), decode a.cfg x = .ok i → encode a.cfg i = x

/-- 30_encoding.md R93 and the frame table: bytes that decode are one of the frames the core can emit, attenuation codes 1 to
31 and 480 to 511 refused by name. -/
def Obligations.OnlyProducibleFramesDecode : Prop :=
  ∀ (a : AdmittedCfg),
    (∀ (bs : List Byte) (i : Instr), decode a.cfg (.bytes bs) = .ok i →
      bs.length = 2 ∧ i.format = .frame16 ∧ i.wf a.cfg = true) ∧
    (∀ (sel : Word) (code : Nat), sel = a.cfg.selAttL ∨ sel = a.cfg.selAttR →
      (1 ≤ code ∧ code ≤ 31) ∨ (480 ≤ code ∧ code ≤ 511) →
      decode a.cfg (.bytes (frameBytes (frame a.cfg sel (BitVec.ofNat 16 (128 * code))))) =
        .error .attenuationNeverProduced)

/-- 30_encoding.md R89: the classification table, every row with its class, under any admitted code assignment; every other
pair is `none`. -/
def Obligations.RemoteTableClassifies : Prop :=
  ∀ (a : AdmittedCfg),
    classify a.cfg a.cfg.rcAddrPreamp a.cfg.cmdSrc1 = some (.selectSource .phono) ∧
    classify a.cfg a.cfg.rcAddrPreamp a.cfg.cmdSrc2 = some (.selectSource .media) ∧
    classify a.cfg a.cfg.rcAddrPreamp a.cfg.cmdSrc3 = some (.selectSource .cd) ∧
    classify a.cfg a.cfg.rcAddrPreamp a.cfg.cmdSrc4 = some (.selectSource .tuner) ∧
    classify a.cfg a.cfg.rcAddrPreamp a.cfg.cmdVolUp = some (.volumeStep .up) ∧
    classify a.cfg a.cfg.rcAddrPreamp a.cfg.cmdVolDown = some (.volumeStep .down) ∧
    classify a.cfg a.cfg.rcAddrPreamp a.cfg.cmdMute = some .toggleMute ∧
    classify a.cfg a.cfg.rcAddrTransport a.cfg.cmdPlay = some .playCd ∧
    (∀ e : AppEvent, continuous e = true ↔ ∃ d, e = .volumeStep d) ∧
    ∀ (adr cmd : Nat),
      ¬ (adr = a.cfg.rcAddrPreamp ∧ (cmd = a.cfg.cmdSrc1 ∨ cmd = a.cfg.cmdSrc2 ∨ cmd = a.cfg.cmdSrc3 ∨
          cmd = a.cfg.cmdSrc4 ∨ cmd = a.cfg.cmdVolUp ∨ cmd = a.cfg.cmdVolDown ∨ cmd = a.cfg.cmdMute)) →
      ¬ (adr = a.cfg.rcAddrTransport ∧ cmd = a.cfg.cmdPlay) →
      classify a.cfg adr cmd = none

/-- The FRAME16 and RC rows of spec/opcode_table.json under REF0 (PRESUMED, log entry 1), words written out from the table's
patterns. A check of the decoder on fixed words. -/
def Obligations.TableWordsDecode : Prop :=
  decodeTableWord 16 0b1110111110010000 = some (.attL (-447)) ∧
  decodeTableWord 16 0b0001000000010111 = some (.attR 0) ∧
  decodeTableWord 16 0b0000000000010001 = some .attLMute ∧
  decodeTableWord 16 0b0000000000010110 = some .attRMute ∧
  decodeTableWord 16 0b1000000000001010 = some (.gain false true) ∧
  decodeTableWord 16 0b0000001000001100 = some (.states true) ∧
  decode (ref0 0) (.triple ⟨true, 16, 13⟩) = .ok (.rcMute true) ∧
  decode (ref0 0) (.triple ⟨false, 20, 53⟩) = .ok (.rcPlay false)

/-- 30_encoding.md section 2 (R81, R87's precondition, decision D1) and R55's derived sentence: the data of every frame the encoder can
build, the select codes and the chip address share no bit, and the sixteen address field values, four registers of four chips, are
pairwise distinct; in every admitted configuration and from every shadow state. -/
def Obligations.PartsOfAFrameShareNoBit : Prop :=
  ∀ (a : AdmittedCfg),
    let sels : List Word := [a.cfg.selAttL, a.cfg.selAttR, a.cfg.selGain, a.cfg.selStates]
    (∀ v, att v &&& a.cfg.addrMask = 0) ∧
    (∀ g, packGain a.cfg g &&& a.cfg.addrMask = 0) ∧
    (∀ d, packDev a.cfg d &&& a.cfg.addrMask = 0) ∧
    (∀ sel ∈ sels, sel &&& a.cfg.chipBits = 0 ∧
      ∀ data, data &&& a.cfg.addrMask = 0 →
        frame a.cfg sel data &&& a.cfg.addrMask = a.cfg.addressPart sel ∧
        frame a.cfg sel data &&& ~~~a.cfg.addrMask = data) ∧
    (∀ x ∈ sels, ∀ y ∈ sels, ∀ c d : BitVec 2,
      x ||| (c.setWidth 16 <<< a.cfg.caLsb) = y ||| (d.setWidth 16 <<< a.cfg.caLsb) → x = y ∧ c = d)

/-- 20_memory.md R50 and R51: a frame on the bus is claim, enable low, the byte of bits 15 to 8, the byte of bits 7 to 0, enable high,
release, for every word; `0xEF90` is sent as `0xEF` then `0x90`; and no other action drives the chip bus. That the claim comes before
the enable and the release after it is decision D32 (log entry 26). -/
def Obligations.HighByteGoesFirst : Prop :=
  (∀ w : Word, ∃ hi lo : Byte, hi.toNat = w.toNat / 256 ∧ lo.toNat = w.toNat % 256 ∧
    Action.busSteps (.frameTx w) = [.busClaim, .csLow, .byte hi, .byte lo, .csHigh, .busRelease]) ∧
  Action.busSteps (.frameTx 0xEF90#16) = [.busClaim, .csLow, .byte 0xEF#8, .byte 0x90#8, .csHigh, .busRelease] ∧
  (∀ a : Action, (∀ w, a ≠ .frameTx w) → a.busSteps = [])

/-! ### The encoder -/

/-- 40_encoder.md R110: `att(v) = (4096 + (−v × 128)) mod 65536`; in the domain the `mod` removes nothing, and `att` is strictly
decreasing there, hence injective; the three literals. -/
def Obligations.AttenuationFormula : Prop :=
  (∀ v : Int, ((att v).toNat : Int) = (4096 + (-v * 128)) % 65536) ∧
  (∀ v : Int, -447 ≤ v → v ≤ 0 → ((att v).toNat : Int) = 4096 - 128 * v) ∧
  (∀ u v : Int, -447 ≤ u → u < v → v ≤ 0 → (att v).toNat < (att u).toNat) ∧
  (∀ u v : Int, -447 ≤ u → u ≤ 0 → -447 ≤ v → v ≤ 0 → att u = att v → u = v) ∧
  att 0 = 0x1000#16 ∧ att (-1) = 4224#16 ∧ att (-447) = 0xEF80#16

/-- 40_encoder.md section 2: `att` as an instruction always completes; it changes nothing but the model's port `ret` (log entry
8), which takes the value. -/
def Obligations.AttHandsBackItsValue : Prop :=
  ∀ (v : Int) (s : State), exec (.att v) s = .next { s with ret := .word (att v) }

/-- 30_encoding.md R83's layout (its derived sentence): attenuation data of the domain has bits [6:0] 0 and the code `32 − v`
in [15:7]; it is never 0, the hard-mute code. -/
def Obligations.AttenuationLayout : Prop :=
  ∀ v : Int, -447 ≤ v → v ≤ 0 →
    att v &&& 0x7F#16 = 0 ∧ ((att v >>> 7).toNat : Int) = 32 - v ∧ att v ≠ 0 ∧
    4096 ≤ (att v).toNat ∧ (att v).toNat ≤ 61312

/-- 40_encoder.md R111: two frames, left then right, each channel its own value; nothing else changes. -/
def Obligations.SetVolumeSendsTheTwoLevels : Prop :=
  ∀ (l r : Int) (s : State), exec (.setVolume l r) s = .next { s with
    out := s.out ++ [.frameTx (frame s.cfg s.cfg.selAttL (att l)), .frameTx (frame s.cfg s.cfg.selAttR (att r))] }

/-- 40_encoder.md section 3, `mute()`: both attenuation frames with data 0, which are the bare address parts; nothing else
changes. Left before right is decision D7 (log entry 19). -/
def Obligations.MuteSendsTheHardMutePair : Prop :=
  ∀ s : State, exec .mute s = .next { s with
    out := s.out ++ [.frameTx (s.cfg.selAttL ||| s.cfg.chipBits), .frameTx (s.cfg.selAttR ||| s.cfg.chipBits)] }

/-- 40_encoder.md R113: one frame at the gain address with the whole shadow; nothing else changes. -/
def Obligations.SetGainSendsTheWholeShadow : Prop :=
  ∀ s : State, exec .setGain s = .next { s with
    out := s.out ++ [.frameTx (frame s.cfg s.cfg.selGain (packGain s.cfg s.gopt))] }

/-- 40_encoder.md R114: the inverted bit is stored, then the whole new shadow is sent, also when the bit did not change. -/
def Obligations.SetExternalClockStoresAndSends : Prop :=
  ∀ (enabled : Bool) (s : State), ∃ d : DevOpts,
    d.clkRaw = !enabled ∧ d.softstepRaw = s.dopt.softstepRaw ∧
    exec (.setExternalClock enabled) s = .next { s with
      dopt := d, out := s.out ++ [.frameTx (frame s.cfg s.cfg.selStates (packDev s.cfg d))] }

/-- 40_encoder.md R115: the inverted bit is stored, then the whole new shadow is sent; the link bit is resent as it stands. -/
def Obligations.SetZeroCrossingStoresAndSends : Prop :=
  ∀ (enabled : Bool) (s : State), ∃ g : GainOpts,
    g.zcRaw = !enabled ∧ g.link = s.gopt.link ∧ g.gain = s.gopt.gain ∧
    exec (.setZeroCrossing enabled) s = .next { s with
      gopt := g, out := s.out ++ [.frameTx (frame s.cfg s.cfg.selGain (packGain s.cfg g))] }

/-- 40_encoder.md section 3, `setLinkChannels`: the bit is stored, then the whole new shadow is sent. That the bit is not
inverted is decision D4 (log entry 19). -/
def Obligations.SetLinkChannelsStoresAndSends : Prop :=
  ∀ (enabled : Bool) (s : State), ∃ g : GainOpts,
    g.link = enabled ∧ g.zcRaw = s.gopt.zcRaw ∧ g.gain = s.gopt.gain ∧
    exec (.setLinkChannels enabled) s = .next { s with
      gopt := g, out := s.out ++ [.frameTx (frame s.cfg s.cfg.selGain (packGain s.cfg g))] }

/-- 40_encoder.md R117: `unmute()` is `setVolume(VOL, VOL)`; after `mute()` it sends the frames a plain `setVolume` of the level
would, and the level is as it was. -/
def Obligations.UnmuteResendsTheLevel : Prop :=
  ∀ s : State,
    exec .unmute s = exec (.setVolume s.vol s.vol) s ∧
    exec .unmute s = .next { s with
      out := s.out ++ [.frameTx (frame s.cfg s.cfg.selAttL (att s.vol)), .frameTx (frame s.cfg s.cfg.selAttR (att s.vol))] } ∧
    ∃ t, exec .mute s = .next t ∧ t.vol = s.vol ∧ exec .unmute t = exec (.setVolume s.vol s.vol) t

/-- 40_encoder.md section 4 (R119's derived sentence): a second identical operation leaves the shadows as the first left them and
sends the same frames again. -/
def Obligations.RepeatingAnOperationRepeatsItsFrames : Prop :=
  ∀ (i : Instr) (s t u : State), i.format = .op → exec i s = .next t → exec i t = .next u →
    u.gopt = t.gopt ∧ u.dopt = t.dopt ∧ ∃ as, t.out = s.out ++ as ∧ u.out = t.out ++ as

/-- 10_state.md R32 and R35 with the hard-wired fields at 0 (R30, R34, D5): the gain data is the two option bits at their
positions, the states data the clock bit at its position. -/
def Obligations.OptionBitsStandAtTheirPositions : Prop :=
  ∀ (a : AdmittedCfg) (g : GainOpts) (d : DevOpts) (n : Nat), g.gain = 0 → d.softstepRaw = false →
    (packGain a.cfg g).getLsbD n = ((decide (n = a.cfg.zcBit) && g.zcRaw) || (decide (n = a.cfg.linkBit) && g.link)) ∧
    (packDev a.cfg d).getLsbD n = (decide (n = a.cfg.clkBit) && d.clkRaw)

/-! ### Frames as instructions -/

/-- 20_memory.md section 1 and the frame table of 30_encoding.md: each of the six frame rows sends its one frame and changes nothing
else; an option row's frame is that of the whole shadow (R84, R85, R118), whatever bits the word shows. The frame sent is the row's
encoded word for every attenuation row, and for an option row when the shadow holds the word's bits and 0 in its hard-wired field. That
running a frame row is sending it, also an option row with other bits than the shadow's, is the model's reading (log entry 10). -/
def Obligations.EachFrameRowSendsItsWord : Prop :=
  (∀ (s : State) (v : Int) (zcRaw link clkRaw : Bool),
    exec (.attL v) s = .next { s with out := s.out ++ [.frameTx (att v ||| s.cfg.selAttL ||| s.cfg.chipBits)] } ∧
    exec (.attR v) s = .next { s with out := s.out ++ [.frameTx (att v ||| s.cfg.selAttR ||| s.cfg.chipBits)] } ∧
    exec .attLMute s = .next { s with out := s.out ++ [.frameTx (s.cfg.selAttL ||| s.cfg.chipBits)] } ∧
    exec .attRMute s = .next { s with out := s.out ++ [.frameTx (s.cfg.selAttR ||| s.cfg.chipBits)] } ∧
    exec (.gain zcRaw link) s = .next { s with
      out := s.out ++ [.frameTx (frame s.cfg s.cfg.selGain (packGain s.cfg s.gopt))] } ∧
    exec (.states clkRaw) s = .next { s with
      out := s.out ++ [.frameTx (frame s.cfg s.cfg.selStates (packDev s.cfg s.dopt))] }) ∧
  (∀ (i : Instr) (s : State) (w : Word), encodeWord s.cfg i = some w →
    (∀ zcRaw link, i = .gain zcRaw link → s.gopt = ⟨zcRaw, link, 0⟩) →
    (∀ clkRaw, i = .states clkRaw → s.dopt = ⟨clkRaw, false⟩) →
    exec i s = .next { s with out := s.out ++ [.frameTx w] })

/-! ### The deduplicator -/

/-- 41_remote_dedup.md R134: after any received triple `TGL = seen(t)`, whatever the command, the previous toggle bit and the
event; so for each remote row and for a tick that takes a triple. -/
def Obligations.EveryTripleMovesTheTracker : Prop :=
  (∀ (t : Bool) (a k : Nat) (s : State) (i : Instr),
    i ∈ [.rcSrc1 t, .rcSrc2 t, .rcSrc3 t, .rcSrc4 t, .rcVolUp t, .rcVolDown t, .rcMute t, .rcPlay t, .rcOther t a k] →
    ∃ u, exec i s = .next u ∧ u.tgl = some t) ∧
  (∀ (now : Nat) (r : Triple) (s u : State), exec (.tick now (some r)) s = .next u → u.tgl = some r.toggle)

/-- 41_remote_dedup.md R135, with R136 beside it: with a toggle bit observed, a one-shot command's event is returned only when the bit differs,
and of two consecutive identical triples the second never returns it; a volume command's event is always returned, so twice for two
identical triples. -/
def Obligations.OneShotNeedsANewToggle : Prop :=
  (∀ (e : AppEvent) (t u : Bool) (s : State), (∀ d, e ≠ .volumeStep d) → s.tgl = some u →
    dedupEvent t (some e) s = (if t = u then none else some e) ∧ dedupEvent t (some e) (track t s) = none) ∧
  (∀ (d : Dir) (t : Bool) (s : State),
    dedupEvent t (some (.volumeStep d)) s = some (.volumeStep d) ∧
    dedupEvent t (some (.volumeStep d)) (track t s) = some (.volumeStep d))

/-- 41_remote_dedup.md section 2: the eight named rows. Each completes, hands its event to its caller, a one-shot one only unless the
toggle bit is the one last seen, and writes `TGL`; nothing else changes. The port `ret` is the model's (log entry 8); that a first
triple is new is decision D10 and one tracker for all keys D11 (log entry 20). -/
def Obligations.RemoteRowsReturnTheirEvent : Prop :=
  ∀ (t : Bool) (s : State),
    let ret (e : AppEvent) : Ret := .event (if s.tgl = some t then none else some e)
    exec (.rcSrc1 t) s = .next { s with tgl := some t, ret := ret (.selectSource .phono) } ∧
    exec (.rcSrc2 t) s = .next { s with tgl := some t, ret := ret (.selectSource .media) } ∧
    exec (.rcSrc3 t) s = .next { s with tgl := some t, ret := ret (.selectSource .cd) } ∧
    exec (.rcSrc4 t) s = .next { s with tgl := some t, ret := ret (.selectSource .tuner) } ∧
    exec (.rcVolUp t) s = .next { s with tgl := some t, ret := .event (some (.volumeStep .up)) } ∧
    exec (.rcVolDown t) s = .next { s with tgl := some t, ret := .event (some (.volumeStep .down)) } ∧
    exec (.rcMute t) s = .next { s with tgl := some t, ret := ret .toggleMute } ∧
    exec (.rcPlay t) s = .next { s with tgl := some t, ret := ret .playCd }

/-- 41_remote_dedup.md section 2, `RC_OTHER`: an unrecognised pair hands back no event and writes `TGL`; nothing else changes (port
`ret`: log entry 8). A pair that another row names is no operand of this row; it too only moves the tracker and hands back what
its own row would (log entry 28). -/
def Obligations.UnrecognisedRowReturnsNothing : Prop :=
  ∀ (t : Bool) (a k : Nat) (s : State),
    (s.cfg.recognised a k = false →
      exec (.rcOther t a k) s = .next { s with tgl := some t, ret := .event none }) ∧
    (s.cfg.recognised a k = true → exec (.rcOther t a k) s = exec (decodeTriple s.cfg ⟨t, a, k⟩) s)

/-- 41_remote_dedup.md sections 1 and 3, 95_test_vectors.md property 6: a held one-shot key produces at most one event, exactly one
when its toggle bit is new; a held volume key one event per triple; an unrecognised one none. First triple new: D10. -/
def Obligations.HeldKeyEvents : Prop :=
  ∀ (n : Nat) (r : Triple) (s : State),
    match classify s.cfg r.addr r.cmd with
    | none => dedupEvents (List.replicate n r) s = []
    | some (.volumeStep d) => dedupEvents (List.replicate n r) s = List.replicate n (.volumeStep d)
    | some e => dedupEvents (List.replicate n r) s =
        if s.tgl = some r.toggle then [] else List.replicate (min n 1) e

/-! ### The tick and the callbacks -/

/-- 42_aggregator.md section 1: a tick is its phases in order, timeout test, remote, rotary, button, each the block's own
instruction on the state the earlier ones left, all with one clock sample; a taken cell is empty afterwards. Timeout first is
decision D13, the one clock sample D12; `lastNow` is the model's (log entry 12). -/
def Obligations.TickIsItsPhases : Prop :=
  ∀ (now : Nat) (rc : Option Triple) (s : State),
    s.booted = true → s.lastNow ≤ now → (s.mode = .sourceSelect → s.tEntry ≤ now) →
    ∃ s0 s1 s2 s3 : State,
      (if s.mode = .sourceSelect ∧ 5000 ≤ now - s.tEntry then exec .timeout s = .next s0 else s0 = s) ∧
      (match rc with
        | none => s1 = s0
        | some r =>
          match dedupEvent r.toggle (classify s0.cfg r.addr r.cmd) s0 with
          | none => s1 = { s0 with tgl := some r.toggle }
          | some e => exec (appInstr e now) { s0 with tgl := some r.toggle } = .next s1) ∧
      (if 0 < s1.rot then exec (.rotUp now) { s1 with rot := 0 } = .next s2
        else if s1.rot < 0 then exec (.rotDown now) { s1 with rot := 0 } = .next s2
        else s2 = s1) ∧
      (match s2.btn with
        | none => s3 = s2
        | some dur => exec (.btn dur now) { s2 with btn := none } = .next s3) ∧
      exec (.tick now rc) s = .next { s3 with lastNow := now }

/-- 60_exceptions.md section 1: for a booted core every tick whose inputs meet the host's duties has a successor. That a sample before
the last one is no legal input, and the field `lastNow` that holds it, is the model's form of duty H-2 (log entry 12). The premise on
`TimerInv` rules out only states no run of the core reaches. The first clause, that nothing ever faults, holds by the model's empty
type of faults (log entry 29). -/
def Obligations.BootedTickAlwaysCompletes : Prop :=
  (∀ (i : Instr) (s : State) (f : Fault), exec i s ≠ .fault f ∧ step s ≠ .fault f) ∧
  (∀ (now : Nat) (rc : Option Triple) (s : State), s.booted = true → TimerInv s → s.lastNow ≤ now →
    ∃ t, exec (.tick now rc) s = .next t ∧ t.lastNow = now ∧ t.booted = true)

/-- 60_exceptions.md section 1, R203 and U4, decision D25 (log entries 12 and 17): when a tick or a boot is refused, and by which
name; in every other case it completes. -/
def Obligations.TickAndBootRefusals : Prop :=
  ∀ (now : Nat) (rc : Option Triple) (pv : Option Int) (ps : Option Nat) (s : State),
    (s.booted = false → exec (.tick now rc) s = .refused .tickBeforeBoot) ∧
    (s.booted = true → now < s.lastNow ∨ (s.mode = .sourceSelect ∧ now < s.tEntry) →
      exec (.tick now rc) s = .refused .clockRanBackwards) ∧
    (s.booted = true → s.lastNow ≤ now → (s.mode = .sourceSelect → s.tEntry ≤ now) →
      ∃ t, exec (.tick now rc) s = .next t) ∧
    (s.booted = true → exec (.boot pv ps) s = .refused .bootTwice) ∧
    (s.booted = false → ∃ t, exec (.boot pv ps) s = .next t)

/-- 42_aggregator.md R154 (derived there): a tick with nothing offered, nothing pending and no timeout due changes no register
of the core and emits nothing; the model's own clock sample moves (log entry 12). -/
def Obligations.EmptyTickChangesNothing : Prop :=
  ∀ (now : Nat) (s : State), s.booted = true → s.lastNow ≤ now → (s.mode = .sourceSelect → s.tEntry ≤ now) →
    s.rot = 0 → s.btn = none → (s.mode = .sourceSelect → now - s.tEntry < 5000) →
    exec (.tick now none) s = .next { s with lastNow := now }

/-- 42_aggregator.md R155, with R230: the two callbacks are enabled in every state, write their own cell and nothing else, emit
nothing; and boot leaves both cells, so that what was turned or pressed before boot is taken by the first tick. -/
def Obligations.CallbacksTouchOnlyTheirCell : Prop :=
  ∀ (s : State) (d : Int) (dur : Nat) (pv : Option Int) (ps : Option Nat),
    (∃ t, exec (.cbRot d) s = .next t ∧ t = { s with rot := t.rot }) ∧
    (∃ t, exec (.cbBtn dur) s = .next t ∧ t = { s with btn := t.btn }) ∧
    (s.booted = false → ∃ t, exec (.boot pv ps) s = .next t ∧ t.rot = s.rot ∧ t.btn = s.btn ∧
      ∀ now rc u, exec (.tick now rc) t = .next u → u.rot = 0 ∧ u.btn = none)

/-- 42_aggregator.md section 2: the turn delta is added to `ROT` (decision D14), the press replaces what `BTN` held (decision D15)
(log entry 21). -/
def Obligations.CallbacksFillTheCells : Prop :=
  ∀ (s : State) (d : Int) (dur : Nat),
    exec (.cbRot d) s = .next { s with rot := s.rot + d } ∧ exec (.cbBtn dur) s = .next { s with btn := some dur }

/-- 42_aggregator.md section 3: a tick leaves both cells empty, and "The magnitude of `d` is dropped": turns of one direction, however
large their sum, have the same tick. That the cell is a sum and its sign the direction is decision D14 (log entry 21). -/
def Obligations.TickEmptiesTheCellsAndDropsTheMagnitude : Prop :=
  (∀ (now : Nat) (rc : Option Triple) (s t : State), exec (.tick now rc) s = .next t → t.rot = 0 ∧ t.btn = none) ∧
  (∀ (now : Nat) (rc : Option Triple) (s : State) (d e : Int), (0 < d ∧ 0 < e) ∨ (d < 0 ∧ e < 0) →
    exec (.tick now rc) { s with rot := d } = exec (.tick now rc) { s with rot := e })

/-- 42_aggregator.md R161 (derived there): a callback that fires inside a tick before the take of its cell has the effect of one
just before the tick, one after the take that of one just after it; the two callbacks commute (R208). -/
def Obligations.CallbacksCommuteWithPhases : Prop :=
  ∀ (s : State) (now : Nat) (rc : Option Triple) (d : Int) (dur : Nat),
    let turn (x : State) : State := { x with rot := x.rot + d }
    let press (x : State) : State := { x with btn := some dur }
    phaseTimeout now (turn s) = turn (phaseTimeout now s) ∧
    phaseRemote now rc (turn s) = turn (phaseRemote now rc s) ∧
    phaseButton now (turn s) = turn (phaseButton now s) ∧
    phaseTimeout now (press s) = press (phaseTimeout now s) ∧
    phaseRemote now rc (press s) = press (phaseRemote now rc s) ∧
    phaseRotary now (press s) = press (phaseRotary now s) ∧
    turn (press s) = press (turn s)

/-! ### The state machine -/

/-- 43_fsm.md section 2, unmuted: one step with its frames, its store and its display, in that order (D24); at the boundary in its
direction nothing (D21) (log entry 22). Mode and timer untouched (D18). -/
def Obligations.VolumeStepUnmuted : Prop :=
  ∀ s : State, LevelInv s → s.mute = false →
    let stepped (v : Int) : State := { s with
      vol := v
      out := s.out ++ [.frameTx (frame s.cfg s.cfg.selAttL (att v)), .frameTx (frame s.cfg s.cfg.selAttR (att v)),
        .persistWrite .volume v, .display (.showVolume v), .displayFlush] }
    (s.vol < 0 → exec .volUp s = .next (stepped (s.vol + 1))) ∧
    (s.vol = 0 → exec .volUp s = .next s) ∧
    (-447 < s.vol → exec .volDown s = .next (stepped (s.vol - 1))) ∧
    (s.vol = -447 → exec .volDown s = .next s)

/-- 43_fsm.md section 2, muted: a volume step first unmutes at the old level, then is the step it would be unmuted: two frame
pairs, or one at the boundary (D22, log entry 22). -/
def Obligations.VolumeStepFirstUnmutes : Prop :=
  ∀ (s : State) (i : Instr), s.mute = true → i = .volUp ∨ i = .volDown →
    exec i s = exec i { s with
      mute := false
      out := s.out ++ [.frameTx (frame s.cfg s.cfg.selAttL (att s.vol)),
        .frameTx (frame s.cfg s.cfg.selAttR (att s.vol)), .display (.showVolume s.vol), .displayFlush] }

/-- 43_fsm.md sections 2 and 6, from every state, also with a level no run reaches: a volume step ends unmuted with the level
clamped, one step on: never wrapped; the mode, the timer and the source stay. -/
def Obligations.VolumeStepsClampNeverWrap : Prop :=
  ∀ s : State,
    (∃ t, exec .volUp s = .next t ∧ t.vol = max (-447) (min 0 (s.vol + 1)) ∧ t.mute = false ∧
      t.mode = s.mode ∧ t.tEntry = s.tEntry ∧ t.src = s.src) ∧
    (∃ t, exec .volDown s = .next t ∧ t.vol = max (-447) (min 0 (s.vol - 1)) ∧ t.mute = false ∧
      t.mode = s.mode ∧ t.tEntry = s.tEntry ∧ t.src = s.src)

/-- 43_fsm.md R174: the cyclic successor of a source, by index: up `(s mod 4) + 1`, down `((s + 2) mod 4) + 1`. -/
def Obligations.NextSourceIsCyclic : Prop :=
  ∀ n : Source, (nextSource n .up).index = n.index % 4 + 1 ∧ (nextSource n .down).index = (n.index + 2) % 4 + 1

/-- 43_fsm.md section 3, `SelectSource(n)`, in either mode (D17) and muted or not. Another source: break, make, the hard-mute pair again
if muted, store, display, one flush (order: D24); the active one: nothing emitted (D20). Either way re-armed in SourceSelect (D19);
nothing else changes (log entry 22). -/
def Obligations.SelectSourceCommitsAndRearms : Prop :=
  ∀ (n : Source) (now : Nat) (s : State),
    (n ≠ s.src → exec (.selectSource n now) s = .next { s with
      src := n
      tEntry := if s.mode = .sourceSelect then now else s.tEntry
      out := s.out ++ [.routeWrite s.src .disable, .routeWrite n .enable] ++
        (if s.mute then [.frameTx (s.cfg.selAttL ||| s.cfg.chipBits), .frameTx (s.cfg.selAttR ||| s.cfg.chipBits)] else []) ++
        [.persistWrite .source n.index, .display (.showSource n)] ++
        (if s.mute then [.display .showMuted] else []) ++ [.displayFlush] }) ∧
    (n = s.src → exec (.selectSource n now) s = .next { s with
      tEntry := if s.mode = .sourceSelect then now else s.tEntry })

/-- 43_fsm.md R178: the knob is a volume step in Run; in SourceSelect it commits the cyclic successor, which is never the active
source, re-arms the timer, and leaves level and mute alone. -/
def Obligations.RotaryDependsOnTheMode : Prop :=
  ∀ (now : Nat) (s : State),
    (s.mode = .run → exec (.rotUp now) s = exec .volUp s ∧ exec (.rotDown now) s = exec .volDown s) ∧
    (s.mode = .sourceSelect →
      exec (.rotUp now) s = exec (.selectSource (nextSource s.src .up) now) s ∧
      exec (.rotDown now) s = exec (.selectSource (nextSource s.src .down) now) s ∧
      nextSource s.src .up ≠ s.src ∧ nextSource s.src .down ≠ s.src ∧
      (∃ t, exec (.rotUp now) s = .next t ∧ t.src = nextSource s.src .up ∧ t.tEntry = now ∧ t.vol = s.vol ∧
        t.mute = s.mute) ∧
      (∃ t, exec (.rotDown now) s = .next t ∧ t.src = nextSource s.src .down ∧ t.tEntry = now ∧ t.vol = s.vol ∧
        t.mute = s.mute))

/-- 43_fsm.md section 4, `Button(dur)`: a press over 50 ms in Run enters SourceSelect at `now` and emits nothing (D27); any other
press does nothing (D16). -/
def Obligations.ButtonEntersSourceSelect : Prop :=
  ∀ (dur now : Nat) (s : State),
    (s.mode = .run ∧ 50 < dur → exec (.btn dur now) s = .next { s with mode := .sourceSelect, tEntry := now }) ∧
    (s.mode = .sourceSelect ∨ dur ≤ 50 → exec (.btn dur now) s = .next s)

/-- 43_fsm.md R180: `Timeout` sets the mode to Run and nothing else; a tick in SourceSelect, with no press pending, ends in Run
exactly when 5000 ms or more have passed since the last entry or re-arm, whatever else it takes; no other instruction leaves
SourceSelect, boot apart, which is enabled only where no mode is given yet. That the test comes first in the tick is R152 and decision
D13 (log entry 21); that the row `Timeout` is unconditional is the model's reading (log entry 31). -/
def Obligations.TimeoutRevertsToRun : Prop :=
  (∀ s : State, exec .timeout s = .next { s with mode := .run }) ∧
  (∀ (now : Nat) (rc : Option Triple) (s t : State), s.mode = .sourceSelect → s.btn = none →
    exec (.tick now rc) s = .next t → (t.mode = .run ↔ 5000 ≤ now - s.tEntry)) ∧
  (∀ (i : Instr) (s t : State), exec i s = .next t → s.mode = .sourceSelect → t.mode = .run →
    i = .timeout ∨ (∃ now rc, i = .tick now rc ∧ 5000 ≤ now - s.tEntry) ∨ (s.booted = false ∧ ∃ pv ps, i = .boot pv ps))

/-- 43_fsm.md R181: mute on sends the hard-mute pair and shows the indicator; mute off sends the level and shows it; level, source,
mode and timer stay. The hard-mute pair left before right is decision D7 (log entry 19), frames before display and flush decision D24
(R185, log entry 22). -/
def Obligations.ToggleMuteOnAndOff : Prop :=
  ∀ s : State,
    (s.mute = false → exec .toggleMute s = .next { s with
      mute := true
      out := s.out ++ [.frameTx (frame s.cfg s.cfg.selAttL 0), .frameTx (frame s.cfg s.cfg.selAttR 0),
        .display .showMuted, .displayFlush] }) ∧
    (s.mute = true → exec .toggleMute s = .next { s with
      mute := false
      out := s.out ++ [.frameTx (frame s.cfg s.cfg.selAttL (att s.vol)), .frameTx (frame s.cfg s.cfg.selAttR (att s.vol)),
        .display (.showVolume s.vol), .displayFlush] })

/-- 43_fsm.md section 5, `PlayCD`: it is `SelectSource(3)` and then, if muted, the unmuting half of `ToggleMute` (D23, log entry
22): always CD, always unmuted, mode and level kept. -/
def Obligations.PlayCdSelectsThenUnmutes : Prop :=
  ∀ (now : Nat) (s : State), ∃ t u,
    exec (.selectSource .cd now) s = .next t ∧
    (if s.mute then exec .toggleMute t = .next u else u = t) ∧
    exec (.playCd now) s = .next u ∧
    u.src = .cd ∧ u.mute = false ∧ u.mode = s.mode ∧ u.vol = s.vol

/-! ### Reset and boot -/

/-- 70_reset_and_hazards.md section 1, hardware reset: what R230 gives (decision D25), the two hard-wired fields, and that a tick
has no step yet. It says nothing of the registers that are unspecified until boot (log entry 3). -/
def Obligations.HardwareReset : Prop :=
  State.reset.booted = false ∧ State.reset.out = [] ∧ State.reset.rot = 0 ∧ State.reset.btn = none ∧
  State.reset.gopt.gain = 0 ∧ State.reset.dopt.softstepRaw = false ∧
  ∀ now rc, exec (.tick now rc) State.reset = .refused .tickBeforeBoot

/-- 70_reset_and_hazards.md section 1, the boot step from any state that is not booted: every register it writes, the twelve outputs
in their order (D25, log entry 23), the tracker empty (D10); `T_ENTRY` and the cells untouched. Level and source are given by the
next statement. -/
def Obligations.BootWritesAndSends : Prop :=
  ∀ (pv : Option Int) (ps : Option Nat) (s : State), s.booted = false →
    exec (.boot pv ps) s = .next { s with
      vol := bootVol pv
      src := bootSrc ps
      mute := false
      mode := .run
      tgl := none
      gopt := ⟨false, false, 0⟩
      dopt := ⟨true, false⟩
      booted := true
      out := s.out ++ [.frameTx (frame s.cfg s.cfg.selStates (packDev s.cfg ⟨true, false⟩)),
        .frameTx (frame s.cfg s.cfg.selGain (packGain s.cfg ⟨false, false, 0⟩)),
        .routeWrite .phono .disable, .routeWrite .media .disable, .routeWrite .cd .disable, .routeWrite .tuner .disable,
        .routeWrite (bootSrc ps) .enable,
        .frameTx (frame s.cfg s.cfg.selAttL (att (bootVol pv))), .frameTx (frame s.cfg s.cfg.selAttR (att (bootVol pv))),
        .display (.showSource (bootSrc ps)), .display (.showVolume (bootVol pv)), .displayFlush] }

/-- 70_reset_and_hazards.md R232 and conflicts C7, C8: a stored level in −447..0 is taken, anything else gives −447, not the nearer
bound; a stored source in 1..4 is taken, anything else gives source 1. -/
def Obligations.BootLoadsOrDefaults : Prop :=
  ∀ (pv : Option Int) (ps : Option Nat) (s : State), s.booted = false →
    ∃ t, exec (.boot pv ps) s = .next t ∧
      (∀ x, pv = some x → -447 ≤ x → x ≤ 0 → t.vol = x) ∧
      (∀ x, pv = some x → x < -447 ∨ 0 < x → t.vol = -447) ∧
      (pv = none → t.vol = -447) ∧
      (∀ y, ps = some y → 1 ≤ y → y ≤ 4 → t.src.index = y) ∧
      (∀ y, ps = some y → y < 1 ∨ 4 < y → t.src.index = 1) ∧
      (ps = none → t.src.index = 1)

/-! ### Rules of the whole machine -/

/-- 00_scope.md section 6 and 20_memory.md section 5: actions are appended to `OUT`, never removed or reordered, by any
instruction. -/
def Obligations.OutputIsOnlyAppended : Prop :=
  ∀ (i : Instr) (s t : State), exec i s = .next t → ∃ as, t.out = s.out ++ as

/-- 10_state.md R20 and sections 4 and 9: which instructions can change what stands apart from the state machine: each shadow bit only
by its setter and by boot (R28, R29, R31, R33), the two hard-wired fields by boot alone (which writes 0), `BOOTED` by boot. The model's own
are the configuration as a field that nothing changes (log entry 1), the list of inputs that no instruction touches (log entry 4), and
the hard-wired fields as stored ones (log entry 30). -/
def Obligations.WritersOfShadowsAndConfiguration : Prop :=
  ∀ (i : Instr) (s t : State), exec i s = .next t →
    (t.gopt.zcRaw ≠ s.gopt.zcRaw → (∃ b, i = .setZeroCrossing b) ∨ ∃ pv ps, i = .boot pv ps) ∧
    (t.gopt.link ≠ s.gopt.link → (∃ b, i = .setLinkChannels b) ∨ ∃ pv ps, i = .boot pv ps) ∧
    (t.gopt.gain ≠ s.gopt.gain → t.gopt.gain = 0 ∧ ∃ pv ps, i = .boot pv ps) ∧
    (t.dopt.clkRaw ≠ s.dopt.clkRaw → (∃ b, i = .setExternalClock b) ∨ ∃ pv ps, i = .boot pv ps) ∧
    (t.dopt.softstepRaw ≠ s.dopt.softstepRaw → t.dopt.softstepRaw = false ∧ ∃ pv ps, i = .boot pv ps) ∧
    (t.booted ≠ s.booted → t.booted = true ∧ ∃ pv ps, i = .boot pv ps) ∧
    t.config = s.config ∧ t.inputs = s.inputs

/-- 43_fsm.md R184 (derived there) and 10_state.md section 6: while muted, the only instructions that clear `MUTE` are `ToggleMute`,
the volume steps, the knob in Run, `PlayCD`, a tick that applies one of these, and boot. A tick applies one when the event it gets for
its triple is no source selection, or when it takes a turn in Run, which it is in since before or by the timeout (first in the tick:
D13, log entry 21). A suppressed or unrecognised triple, a source selection and a turn in SourceSelect leave `MUTE` as it is. -/
def Obligations.OnlyTheseClearMute : Prop :=
  ∀ (i : Instr) (s t : State), exec i s = .next t → s.mute = true → t.mute = false →
    i = .toggleMute ∨ i = .volUp ∨ i = .volDown ∨ (∃ now, i = .playCd now) ∨
    (s.mode = .run ∧ ∃ now, i = .rotUp now ∨ i = .rotDown now) ∨
    (∃ now rc, i = .tick now rc ∧
      ((∃ r e, rc = some r ∧ dedupEvent r.toggle (classify s.cfg r.addr r.cmd) s = some e ∧ ∀ n, e ≠ .selectSource n) ∨
        (s.rot ≠ 0 ∧ (s.mode = .run ∨ 5000 ≤ now - s.tEntry)))) ∨
    (∃ pv ps, i = .boot pv ps)

/-- 43_fsm.md sections 1 and 6: the mode changes only by a qualifying press, by the timeout, by a tick that has one of them, and by
boot; a source commit never leaves SourceSelect (conflict C5). -/
def Obligations.OnlyTheseChangeTheMode : Prop :=
  ∀ (i : Instr) (s t : State), exec i s = .next t → t.mode ≠ s.mode →
    (s.mode = .run ∧ ∃ dur now, i = .btn dur now ∧ 50 < dur ∧ t.tEntry = now) ∨
    (s.mode = .sourceSelect ∧ i = .timeout) ∨
    (s.mode = .run ∧ ∃ now rc dur, i = .tick now rc ∧ s.btn = some dur ∧ 50 < dur ∧ t.tEntry = now) ∨
    (s.mode = .sourceSelect ∧ ∃ now rc, i = .tick now rc ∧ 5000 ≤ now - s.tEntry) ∨
    (∃ pv ps, i = .boot pv ps)

/-- 20_memory.md section 3: every instruction but boot that changes the level stores the new level in the same instruction, and
likewise the source, and what it stores last is the register's. A row other than a tick that leaves the level as it was stores none,
likewise the source (decisions D20, D21; log entry 22); boot stores nothing (D26; log entry 23). A tick may apply several events, each
of which stores only what it changes, so a level that comes back within one tick was stored. -/
def Obligations.ChangesAreWrittenThrough : Prop :=
  ∀ (i : Instr) (s t : State), exec i s = .next t → ∃ as, t.out = s.out ++ as ∧
    ((∀ pv ps, i ≠ .boot pv ps) →
      (t.vol ≠ s.vol → lastPersist .volume as = some t.vol) ∧
      (t.src ≠ s.src → lastPersist .source as = some (t.src.index : Int)) ∧
      (∀ x, lastPersist .volume as = some x → x = t.vol) ∧
      (∀ y, lastPersist .source as = some y → y = t.src.index)) ∧
    ((∀ pv ps, i ≠ .boot pv ps) → (∀ now rc, i ≠ .tick now rc) →
      (t.vol = s.vol → ∀ x, .persistWrite .volume x ∉ as) ∧ (t.src = s.src → ∀ y, .persistWrite .source y ∉ as)) ∧
    ((∃ pv ps, i = .boot pv ps) → ∀ k x, .persistWrite k x ∉ as)

/-! ### Steps -/

/-- A step takes the next input, and when it decodes runs the instruction on the state with that input taken away; what does not
decode is refused by its reason; with nothing offered the core rests (log entry 4). -/
def Obligations.StepRunsTheNextInput : Prop :=
  (∀ (s : State) (x : Input) (rest : List Input) (i : Instr), s.inputs = x :: rest → decode s.cfg x = .ok i →
    step s = exec i { s with inputs := rest }) ∧
  (∀ (s : State) (x : Input) (rest : List Input) (e : DecodeError), s.inputs = x :: rest → decode s.cfg x = .error e →
    step s = .refused (.undecodable e)) ∧
  (∀ s : State, s.inputs = [] → step s = .next s)

/-- The word of an opcode-table row placed before a step is what that step runs, in the table's configuration (log entry 6). -/
def Obligations.TableWordRunsNext : Prop :=
  ∀ (s : State) (nbits w : Nat) (i : Instr), decodeTableWord nbits w = some i →
    step (s.withFetchWord nbits w) = exec i { s with config := tableCfg w }

/-! ### Invariants -/

/-- 10_state.md section 8 (derived there): from boot on, along the steps of the two agents, the level and the source stay in range,
exactly line `SRC` is routed, the last attenuation frames are those of the level or of hard mute, and the last stored values are the
registers'. -/
def Obligations.EveryStepKeepsTheCoreInvariant : Prop :=
  ∀ s t : State, CoreInv s → step s = .next t → CoreInv t

/-- 20_memory.md section 2 and 70_reset_and_hazards.md section 2, break-before-make: along the steps of the agents no two routing
lines are ever enabled at once, from a power-on in which any may be (D28). -/
def Obligations.EveryStepKeepsRoutingExclusive : Prop :=
  ∀ s t : State, RoutingInv s → step s = .next t → RoutingInv t

/-- 70_reset_and_hazards.md section 2, frame integrity: along the steps of the agents every left attenuation frame is followed at once
by the right one with the same data. -/
def Obligations.EveryStepKeepsFramesPaired : Prop :=
  ∀ s t : State, PairsInv s → step s = .next t → PairsInv t

/-- 43_fsm.md section 6: along the steps of the agents a running timer never started after the last clock sample, so the host's
clock duty alone makes every tick's subtraction exact. -/
def Obligations.EveryStepKeepsTheTimer : Prop :=
  ∀ s t : State, TimerInv s → step s = .next t → TimerInv t

/-- 10_state.md section 8 and 43_fsm.md section 2, for every step of every kind, the blocks' own operations included: the level stays
in −447..0 and the hard-wired fields 0. -/
def Obligations.EveryStepKeepsTheLevelInRange : Prop :=
  ∀ s t : State, LevelInv s → step s = .next t → LevelInv t

/-- The invariants of the integrated core hold right after hardware reset. None of them looks at a register that is unspecified
until boot. -/
def Obligations.ResetMeetsTheInvariants : Prop :=
  CoreInv State.reset ∧ RoutingInv State.reset ∧ PairsInv State.reset ∧ TimerInv State.reset

/-! ### Whole registers -/

/-- 40_encoder.md R118 and R241: whatever instruction completes, every frame it sends at the gain address carries the whole gain shadow
as it then stands, every frame at the states address the whole device shadow; and a setter changes its one field and no other. For the
two option frame rows this rests on the model's reading of them (log entry 10). -/
def Obligations.OptionFramesCarryTheWholeShadow : Prop :=
  (∀ (i : Instr) (s t : State), exec i s = .next t → ∃ as, t.out = s.out ++ as ∧
    (∀ w, .frameTx w ∈ as → w &&& s.cfg.addrMask = s.cfg.addressPart s.cfg.selGain →
      w = frame s.cfg s.cfg.selGain (packGain s.cfg t.gopt)) ∧
    (∀ w, .frameTx w ∈ as → w &&& s.cfg.addrMask = s.cfg.addressPart s.cfg.selStates →
      w = frame s.cfg s.cfg.selStates (packDev s.cfg t.dopt))) ∧
  (∀ (b : Bool) (s : State),
    (∃ as, exec (.setZeroCrossing b) s = .next { s with gopt := ⟨!b, s.gopt.link, s.gopt.gain⟩, out := s.out ++ as }) ∧
    (∃ as, exec (.setLinkChannels b) s = .next { s with gopt := ⟨s.gopt.zcRaw, b, s.gopt.gain⟩, out := s.out ++ as }) ∧
    (∃ as, exec (.setExternalClock b) s = .next { s with dopt := ⟨!b, s.dopt.softstepRaw⟩, out := s.out ++ as }))
end

