-- ==== Sys2Proof/Laws/Frames.lean ====
section
/-! SUPPORT. Bits of a frame: what an admitted configuration says of single bits, where the data of a frame lies, and that
a word and its two bytes are the same thing. -/

namespace Sys2Proof

/-! ### Words bit by bit -/

theorem and_eq_zero_iff_bits {x y : Word} : x &&& y = 0 ↔ ∀ i, i < 16 → (x.getLsbD i && y.getLsbD i) = false := by
  constructor
  · intro h i _
    simpa using congrArg (fun z => BitVec.getLsbD z i) h
  · intro h
    apply BitVec.eq_of_getLsbD_eq
    intro i hi
    simpa using h i hi

theorem rawBit_getLsbD (b : Bool) (n i : Nat) (hi : i < 16) : (rawBit b <<< n).getLsbD i = (decide (i = n) && b) := by
  simp [rawBit, hi]
  by_cases h : i < n
  · simp [h]; omega
  · by_cases h2 : i = n
    · subst h2; simp
    · simp [h2, h, show i - n ≠ 0 by omega]

/-- A word's bit from its two bytes, the first byte on top (R51). -/
theorem wordOfBytes_getLsbD (hi lo : Byte) (i : Nat) :
    (wordOfBytes hi lo).getLsbD i = if i < 8 then lo.getLsbD i else hi.getLsbD (i - 8) :=
  BitVec.getLsbD_append ..

theorem wordOfBytes_frameBytes (w : Word) : wordOfBytes (highByte w) (lowByte w) = w := by
  apply BitVec.eq_of_getLsbD_eq
  intro i hi
  rw [wordOfBytes_getLsbD]
  by_cases h : i < 8
  · simp [h, lowByte]
  · simp [h, highByte, show i - 8 < 8 by omega, show 8 + (i - 8) = i by omega]

theorem frameBytes_wordOfBytes (hi lo : Byte) : frameBytes (wordOfBytes hi lo) = [hi, lo] := by
  have h1 : highByte (wordOfBytes hi lo) = hi := by
    apply BitVec.eq_of_getLsbD_eq
    intro i hi
    rw [highByte, BitVec.getLsbD_extractLsb', wordOfBytes_getLsbD]
    simp [hi]
  have h2 : lowByte (wordOfBytes hi lo) = lo := by
    apply BitVec.eq_of_getLsbD_eq
    intro i hi
    rw [lowByte, BitVec.getLsbD_extractLsb', wordOfBytes_getLsbD]
    simp [hi]
  rw [frameBytes, h1, h2]

/-! ### Attenuation data -/

/-- `att` in the domain, as a number (R83). -/
theorem att_toNat (v : Int) (h1 : -447 ≤ v) (h2 : v ≤ 0) : (att v).toNat = 128 * (32 - v).toNat := by
  have : ((att v).toNat : Int) = (4096 + (-v * 128)) % 65536 := by simp [att]; omega
  omega

/-- Bits [6:0] of attenuation data are 0, whatever the level (R83). -/
theorem att_low_bits (v : Int) (i : Nat) (h : i < 7) : (att v).getLsbD i = false := by
  have h1 : (att v).toNat = 2 ^ 7 * (((32 - v) % 512).toNat) := by
    have : ((att v).toNat : Int) = (4096 + (-v * 128)) % 65536 := by simp [att]; omega
    omega
  rw [BitVec.getLsbD, h1, Nat.testBit_two_pow_mul]
  simp
  omega

theorem volInDomain_iff {v : Int} : volInDomain v = true ↔ -447 ≤ v ∧ v ≤ 0 := by
  unfold volInDomain
  rw [Bool.and_eq_true, decide_eq_true_iff, decide_eq_true_iff]
  exact Iff.rfl

/-! ### What an admitted configuration says -/

/-- R7 in the form proofs use. -/
structure Cfg.Placed (c : Cfg) : Prop where
  caLsb : c.caLsb ≤ 5
  clear : c.selMask &&& c.caMask = 0
  low : c.addrMask &&& 0xFF80#16 = 0
  distinct : [c.selAttL, c.selAttR, c.selGain, c.selStates].Nodup
  zcBit : c.dataBit c.zcBit = true
  linkBit : c.dataBit c.linkBit = true
  clkBit : c.dataBit c.clkBit = true
  softstepBit : c.dataBit c.softstepBit = true
  gainLsb : c.gainLsb ≤ 10
  gainField : (0x3F#16 <<< c.gainLsb) &&& c.addrMask = 0
  zcLink : c.zcBit ≠ c.linkBit

theorem Cfg.placed_of_wf {c : Cfg} (h : c.wf = true) : c.Placed := by
  simp only [Cfg.wf, Cfg.selectsDistinct, Cfg.selectsClearOfChip, Cfg.addressLow, Cfg.optionsPlaced, Bool.and_eq_true,
    decide_eq_true_eq] at h
  obtain ⟨⟨⟨⟨⟨h1, h2, h3⟩, h4⟩, h5⟩, -⟩, -⟩ := h
  obtain ⟨⟨⟨⟨⟨⟨⟨⟨⟨a, b⟩, c'⟩, d⟩, e⟩, f⟩, g⟩, -⟩, -⟩, -⟩ := h5
  exact ⟨h2, h3, h4, h1, a, b, c', d, e, f, g⟩

theorem Cfg.Placed.mask_low {c : Cfg} (p : c.Placed) (i : Nat) (h : c.addrMask.getLsbD i = true) : i < 7 := by
  have hi : i < 16 := BitVec.lt_of_getLsbD h
  have := and_eq_zero_iff_bits.1 p.low i hi
  rw [h] at this
  by_contra hc
  have : ∀ i < 16, 7 ≤ i → (0xFF80#16).getLsbD i = true := by decide
  simp_all

theorem Cfg.dataBit_iff {c : Cfg} {n : Nat} (h : c.dataBit n = true) : n < 16 ∧ c.addrMask.getLsbD n = false := by
  simp only [Cfg.dataBit, Bool.and_eq_true, decide_eq_true_eq] at h
  refine ⟨h.1, ?_⟩
  have h2 := and_eq_zero_iff_bits.1 h.2 n h.1
  rw [show (1#16 <<< n).getLsbD n = true by simp [h.1]] at h2
  simpa using h2

/-- A chip address lies inside `CA_MASK`. -/
theorem Cfg.chip_in_caMask (c : Cfg) (d : BitVec 2) (i : Nat) (h : (d.setWidth 16 <<< c.caLsb).getLsbD i = true) :
    c.caMask.getLsbD i = true := by
  have hi := BitVec.lt_of_getLsbD h
  simp only [BitVec.getLsbD_shiftLeft, Bool.and_eq_true] at h
  have h3 : i - c.caLsb < 2 := by
    have := h.2
    rw [BitVec.getLsbD_setWidth] at this
    simp only [Bool.and_eq_true] at this
    exact BitVec.lt_of_getLsbD this.2
  have h4 : ∀ j < 2, (3#16).getLsbD j = true := by decide
  rw [Cfg.caMask, BitVec.getLsbD_shiftLeft, h4 _ h3, Bool.and_true]
  simpa using h.1

/-- The four select codes. -/
def Cfg.selects (c : Cfg) : List Word := [c.selAttL, c.selAttR, c.selGain, c.selStates]

theorem Cfg.select_in_selMask (c : Cfg) {x : Word} (hx : x ∈ c.selects) (i : Nat) (h : x.getLsbD i = true) :
    c.selMask.getLsbD i = true := by
  simp [Cfg.selects] at hx
  rcases hx with rfl | rfl | rfl | rfl <;> simp [Cfg.selMask, h]

theorem Cfg.addressPart_in_addrMask (c : Cfg) {x : Word} (hx : x ∈ c.selects) (i : Nat)
    (h : (c.addressPart x).getLsbD i = true) : c.addrMask.getLsbD i = true := by
  simp only [Cfg.addressPart, Cfg.chipBits, BitVec.getLsbD_or, Bool.or_eq_true] at h
  simp only [Cfg.addrMask, BitVec.getLsbD_or, Bool.or_eq_true]
  exact h.imp (c.select_in_selMask hx i) (c.chip_in_caMask c.ca i)

/-! ### Taking frames apart -/

theorem frame_eq (c : Cfg) (sel data : Word) : frame c sel data = data ||| c.addressPart sel := by
  simp [frame, Cfg.addressPart, BitVec.or_assoc]

/-- A word with the address part of a register is the frame of its data at that register. -/
theorem frame_of_parts (c : Cfg) (sel w : Word) (h : w &&& c.addrMask = c.addressPart sel) :
    frame c sel (w &&& ~~~c.addrMask) = w := by
  rw [frame_eq, ← h]
  apply BitVec.eq_of_getLsbD_eq
  intro i hi
  rw [BitVec.getLsbD_or, BitVec.getLsbD_and, BitVec.getLsbD_and, BitVec.getLsbD_not]
  cases w.getLsbD i <;> cases c.addrMask.getLsbD i <;> simp [hi]

end Sys2Proof
end

