-- ==== Sys2Proof/Laws/State.lean ====
section
/-! SUPPORT. What each shared update of the state does to each field, so that no later proof unfolds a record update. -/

namespace Sys2Proof.Machine

open Sys2Proof

/-! ### `emit` -/

@[simp] theorem emit_out (as : List Action) (s : State) : (emit as s).out = s.out ++ as := rfl
@[simp] theorem emit_nil (s : State) : emit [] s = s := by simp [emit]
@[simp] theorem emit_emit (as bs : List Action) (s : State) : emit bs (emit as s) = emit (as ++ bs) s := by simp [emit]
@[simp] theorem emit_vol (as : List Action) (s : State) : (emit as s).vol = s.vol := rfl
@[simp] theorem emit_src (as : List Action) (s : State) : (emit as s).src = s.src := rfl
@[simp] theorem emit_mute (as : List Action) (s : State) : (emit as s).mute = s.mute := rfl
@[simp] theorem emit_mode (as : List Action) (s : State) : (emit as s).mode = s.mode := rfl
@[simp] theorem emit_tEntry (as : List Action) (s : State) : (emit as s).tEntry = s.tEntry := rfl
@[simp] theorem emit_tgl (as : List Action) (s : State) : (emit as s).tgl = s.tgl := rfl
@[simp] theorem emit_gopt (as : List Action) (s : State) : (emit as s).gopt = s.gopt := rfl
@[simp] theorem emit_dopt (as : List Action) (s : State) : (emit as s).dopt = s.dopt := rfl
@[simp] theorem emit_rot (as : List Action) (s : State) : (emit as s).rot = s.rot := rfl
@[simp] theorem emit_btn (as : List Action) (s : State) : (emit as s).btn = s.btn := rfl
@[simp] theorem emit_booted (as : List Action) (s : State) : (emit as s).booted = s.booted := rfl
@[simp] theorem emit_config (as : List Action) (s : State) : (emit as s).config = s.config := rfl
@[simp] theorem emit_inputs (as : List Action) (s : State) : (emit as s).inputs = s.inputs := rfl
@[simp] theorem emit_lastNow (as : List Action) (s : State) : (emit as s).lastNow = s.lastNow := rfl
@[simp] theorem emit_ret (as : List Action) (s : State) : (emit as s).ret = s.ret := rfl
@[simp] theorem emit_cfg (as : List Action) (s : State) : (emit as s).cfg = s.cfg := rfl

/-! ### `storeExternalClock` -/

@[simp] theorem storeExternalClock_vol (b : Bool) (s : State) : (storeExternalClock b s).vol = s.vol := rfl
@[simp] theorem storeExternalClock_src (b : Bool) (s : State) : (storeExternalClock b s).src = s.src := rfl
@[simp] theorem storeExternalClock_mute (b : Bool) (s : State) : (storeExternalClock b s).mute = s.mute := rfl
@[simp] theorem storeExternalClock_mode (b : Bool) (s : State) : (storeExternalClock b s).mode = s.mode := rfl
@[simp] theorem storeExternalClock_tEntry (b : Bool) (s : State) : (storeExternalClock b s).tEntry = s.tEntry := rfl
@[simp] theorem storeExternalClock_tgl (b : Bool) (s : State) : (storeExternalClock b s).tgl = s.tgl := rfl
@[simp] theorem storeExternalClock_gopt (b : Bool) (s : State) : (storeExternalClock b s).gopt = s.gopt := rfl
@[simp] theorem storeExternalClock_dopt (b : Bool) (s : State) : (storeExternalClock b s).dopt = { s.dopt with clkRaw := !b } := rfl
@[simp] theorem storeExternalClock_rot (b : Bool) (s : State) : (storeExternalClock b s).rot = s.rot := rfl
@[simp] theorem storeExternalClock_btn (b : Bool) (s : State) : (storeExternalClock b s).btn = s.btn := rfl
@[simp] theorem storeExternalClock_booted (b : Bool) (s : State) : (storeExternalClock b s).booted = s.booted := rfl
@[simp] theorem storeExternalClock_config (b : Bool) (s : State) : (storeExternalClock b s).config = s.config := rfl
@[simp] theorem storeExternalClock_inputs (b : Bool) (s : State) : (storeExternalClock b s).inputs = s.inputs := rfl
@[simp] theorem storeExternalClock_lastNow (b : Bool) (s : State) : (storeExternalClock b s).lastNow = s.lastNow := rfl
@[simp] theorem storeExternalClock_ret (b : Bool) (s : State) : (storeExternalClock b s).ret = s.ret := rfl
@[simp] theorem storeExternalClock_out (b : Bool) (s : State) : (storeExternalClock b s).out = s.out := rfl
@[simp] theorem storeExternalClock_cfg (b : Bool) (s : State) : (storeExternalClock b s).cfg = s.cfg := rfl

/-! ### `storeZeroCrossing` -/

@[simp] theorem storeZeroCrossing_vol (b : Bool) (s : State) : (storeZeroCrossing b s).vol = s.vol := rfl
@[simp] theorem storeZeroCrossing_src (b : Bool) (s : State) : (storeZeroCrossing b s).src = s.src := rfl
@[simp] theorem storeZeroCrossing_mute (b : Bool) (s : State) : (storeZeroCrossing b s).mute = s.mute := rfl
@[simp] theorem storeZeroCrossing_mode (b : Bool) (s : State) : (storeZeroCrossing b s).mode = s.mode := rfl
@[simp] theorem storeZeroCrossing_tEntry (b : Bool) (s : State) : (storeZeroCrossing b s).tEntry = s.tEntry := rfl
@[simp] theorem storeZeroCrossing_tgl (b : Bool) (s : State) : (storeZeroCrossing b s).tgl = s.tgl := rfl
@[simp] theorem storeZeroCrossing_gopt (b : Bool) (s : State) : (storeZeroCrossing b s).gopt = { s.gopt with zcRaw := !b } := rfl
@[simp] theorem storeZeroCrossing_dopt (b : Bool) (s : State) : (storeZeroCrossing b s).dopt = s.dopt := rfl
@[simp] theorem storeZeroCrossing_rot (b : Bool) (s : State) : (storeZeroCrossing b s).rot = s.rot := rfl
@[simp] theorem storeZeroCrossing_btn (b : Bool) (s : State) : (storeZeroCrossing b s).btn = s.btn := rfl
@[simp] theorem storeZeroCrossing_booted (b : Bool) (s : State) : (storeZeroCrossing b s).booted = s.booted := rfl
@[simp] theorem storeZeroCrossing_config (b : Bool) (s : State) : (storeZeroCrossing b s).config = s.config := rfl
@[simp] theorem storeZeroCrossing_inputs (b : Bool) (s : State) : (storeZeroCrossing b s).inputs = s.inputs := rfl
@[simp] theorem storeZeroCrossing_lastNow (b : Bool) (s : State) : (storeZeroCrossing b s).lastNow = s.lastNow := rfl
@[simp] theorem storeZeroCrossing_ret (b : Bool) (s : State) : (storeZeroCrossing b s).ret = s.ret := rfl
@[simp] theorem storeZeroCrossing_out (b : Bool) (s : State) : (storeZeroCrossing b s).out = s.out := rfl
@[simp] theorem storeZeroCrossing_cfg (b : Bool) (s : State) : (storeZeroCrossing b s).cfg = s.cfg := rfl

/-! ### `storeLinkChannels` -/

@[simp] theorem storeLinkChannels_vol (b : Bool) (s : State) : (storeLinkChannels b s).vol = s.vol := rfl
@[simp] theorem storeLinkChannels_src (b : Bool) (s : State) : (storeLinkChannels b s).src = s.src := rfl
@[simp] theorem storeLinkChannels_mute (b : Bool) (s : State) : (storeLinkChannels b s).mute = s.mute := rfl
@[simp] theorem storeLinkChannels_mode (b : Bool) (s : State) : (storeLinkChannels b s).mode = s.mode := rfl
@[simp] theorem storeLinkChannels_tEntry (b : Bool) (s : State) : (storeLinkChannels b s).tEntry = s.tEntry := rfl
@[simp] theorem storeLinkChannels_tgl (b : Bool) (s : State) : (storeLinkChannels b s).tgl = s.tgl := rfl
@[simp] theorem storeLinkChannels_gopt (b : Bool) (s : State) : (storeLinkChannels b s).gopt = { s.gopt with link := b } := rfl
@[simp] theorem storeLinkChannels_dopt (b : Bool) (s : State) : (storeLinkChannels b s).dopt = s.dopt := rfl
@[simp] theorem storeLinkChannels_rot (b : Bool) (s : State) : (storeLinkChannels b s).rot = s.rot := rfl
@[simp] theorem storeLinkChannels_btn (b : Bool) (s : State) : (storeLinkChannels b s).btn = s.btn := rfl
@[simp] theorem storeLinkChannels_booted (b : Bool) (s : State) : (storeLinkChannels b s).booted = s.booted := rfl
@[simp] theorem storeLinkChannels_config (b : Bool) (s : State) : (storeLinkChannels b s).config = s.config := rfl
@[simp] theorem storeLinkChannels_inputs (b : Bool) (s : State) : (storeLinkChannels b s).inputs = s.inputs := rfl
@[simp] theorem storeLinkChannels_lastNow (b : Bool) (s : State) : (storeLinkChannels b s).lastNow = s.lastNow := rfl
@[simp] theorem storeLinkChannels_ret (b : Bool) (s : State) : (storeLinkChannels b s).ret = s.ret := rfl
@[simp] theorem storeLinkChannels_out (b : Bool) (s : State) : (storeLinkChannels b s).out = s.out := rfl
@[simp] theorem storeLinkChannels_cfg (b : Bool) (s : State) : (storeLinkChannels b s).cfg = s.cfg := rfl

/-! ### `track` -/

@[simp] theorem track_vol (t : Bool) (s : State) : (track t s).vol = s.vol := rfl
@[simp] theorem track_src (t : Bool) (s : State) : (track t s).src = s.src := rfl
@[simp] theorem track_mute (t : Bool) (s : State) : (track t s).mute = s.mute := rfl
@[simp] theorem track_mode (t : Bool) (s : State) : (track t s).mode = s.mode := rfl
@[simp] theorem track_tEntry (t : Bool) (s : State) : (track t s).tEntry = s.tEntry := rfl
@[simp] theorem track_tgl (t : Bool) (s : State) : (track t s).tgl = some t := rfl
@[simp] theorem track_gopt (t : Bool) (s : State) : (track t s).gopt = s.gopt := rfl
@[simp] theorem track_dopt (t : Bool) (s : State) : (track t s).dopt = s.dopt := rfl
@[simp] theorem track_rot (t : Bool) (s : State) : (track t s).rot = s.rot := rfl
@[simp] theorem track_btn (t : Bool) (s : State) : (track t s).btn = s.btn := rfl
@[simp] theorem track_booted (t : Bool) (s : State) : (track t s).booted = s.booted := rfl
@[simp] theorem track_config (t : Bool) (s : State) : (track t s).config = s.config := rfl
@[simp] theorem track_inputs (t : Bool) (s : State) : (track t s).inputs = s.inputs := rfl
@[simp] theorem track_lastNow (t : Bool) (s : State) : (track t s).lastNow = s.lastNow := rfl
@[simp] theorem track_ret (t : Bool) (s : State) : (track t s).ret = s.ret := rfl
@[simp] theorem track_out (t : Bool) (s : State) : (track t s).out = s.out := rfl
@[simp] theorem track_cfg (t : Bool) (s : State) : (track t s).cfg = s.cfg := rfl

/-! ### `timeout` -/

@[simp] theorem timeout_vol (s : State) : (timeout s).vol = s.vol := rfl
@[simp] theorem timeout_src (s : State) : (timeout s).src = s.src := rfl
@[simp] theorem timeout_mute (s : State) : (timeout s).mute = s.mute := rfl
@[simp] theorem timeout_mode (s : State) : (timeout s).mode = .run := rfl
@[simp] theorem timeout_tEntry (s : State) : (timeout s).tEntry = s.tEntry := rfl
@[simp] theorem timeout_tgl (s : State) : (timeout s).tgl = s.tgl := rfl
@[simp] theorem timeout_gopt (s : State) : (timeout s).gopt = s.gopt := rfl
@[simp] theorem timeout_dopt (s : State) : (timeout s).dopt = s.dopt := rfl
@[simp] theorem timeout_rot (s : State) : (timeout s).rot = s.rot := rfl
@[simp] theorem timeout_btn (s : State) : (timeout s).btn = s.btn := rfl
@[simp] theorem timeout_booted (s : State) : (timeout s).booted = s.booted := rfl
@[simp] theorem timeout_config (s : State) : (timeout s).config = s.config := rfl
@[simp] theorem timeout_inputs (s : State) : (timeout s).inputs = s.inputs := rfl
@[simp] theorem timeout_lastNow (s : State) : (timeout s).lastNow = s.lastNow := rfl
@[simp] theorem timeout_ret (s : State) : (timeout s).ret = s.ret := rfl
@[simp] theorem timeout_out (s : State) : (timeout s).out = s.out := rfl
@[simp] theorem timeout_cfg (s : State) : (timeout s).cfg = s.cfg := rfl

/-! ### `clearRot` -/

@[simp] theorem clearRot_vol (s : State) : (clearRot s).vol = s.vol := rfl
@[simp] theorem clearRot_src (s : State) : (clearRot s).src = s.src := rfl
@[simp] theorem clearRot_mute (s : State) : (clearRot s).mute = s.mute := rfl
@[simp] theorem clearRot_mode (s : State) : (clearRot s).mode = s.mode := rfl
@[simp] theorem clearRot_tEntry (s : State) : (clearRot s).tEntry = s.tEntry := rfl
@[simp] theorem clearRot_tgl (s : State) : (clearRot s).tgl = s.tgl := rfl
@[simp] theorem clearRot_gopt (s : State) : (clearRot s).gopt = s.gopt := rfl
@[simp] theorem clearRot_dopt (s : State) : (clearRot s).dopt = s.dopt := rfl
@[simp] theorem clearRot_rot (s : State) : (clearRot s).rot = 0 := rfl
@[simp] theorem clearRot_btn (s : State) : (clearRot s).btn = s.btn := rfl
@[simp] theorem clearRot_booted (s : State) : (clearRot s).booted = s.booted := rfl
@[simp] theorem clearRot_config (s : State) : (clearRot s).config = s.config := rfl
@[simp] theorem clearRot_inputs (s : State) : (clearRot s).inputs = s.inputs := rfl
@[simp] theorem clearRot_lastNow (s : State) : (clearRot s).lastNow = s.lastNow := rfl
@[simp] theorem clearRot_ret (s : State) : (clearRot s).ret = s.ret := rfl
@[simp] theorem clearRot_out (s : State) : (clearRot s).out = s.out := rfl
@[simp] theorem clearRot_cfg (s : State) : (clearRot s).cfg = s.cfg := rfl

/-! ### `clearBtn` -/

@[simp] theorem clearBtn_vol (s : State) : (clearBtn s).vol = s.vol := rfl
@[simp] theorem clearBtn_src (s : State) : (clearBtn s).src = s.src := rfl
@[simp] theorem clearBtn_mute (s : State) : (clearBtn s).mute = s.mute := rfl
@[simp] theorem clearBtn_mode (s : State) : (clearBtn s).mode = s.mode := rfl
@[simp] theorem clearBtn_tEntry (s : State) : (clearBtn s).tEntry = s.tEntry := rfl
@[simp] theorem clearBtn_tgl (s : State) : (clearBtn s).tgl = s.tgl := rfl
@[simp] theorem clearBtn_gopt (s : State) : (clearBtn s).gopt = s.gopt := rfl
@[simp] theorem clearBtn_dopt (s : State) : (clearBtn s).dopt = s.dopt := rfl
@[simp] theorem clearBtn_rot (s : State) : (clearBtn s).rot = s.rot := rfl
@[simp] theorem clearBtn_btn (s : State) : (clearBtn s).btn = none := rfl
@[simp] theorem clearBtn_booted (s : State) : (clearBtn s).booted = s.booted := rfl
@[simp] theorem clearBtn_config (s : State) : (clearBtn s).config = s.config := rfl
@[simp] theorem clearBtn_inputs (s : State) : (clearBtn s).inputs = s.inputs := rfl
@[simp] theorem clearBtn_lastNow (s : State) : (clearBtn s).lastNow = s.lastNow := rfl
@[simp] theorem clearBtn_ret (s : State) : (clearBtn s).ret = s.ret := rfl
@[simp] theorem clearBtn_out (s : State) : (clearBtn s).out = s.out := rfl
@[simp] theorem clearBtn_cfg (s : State) : (clearBtn s).cfg = s.cfg := rfl

end Sys2Proof.Machine
end

