-- ==== Sys2Proof/Laws/Ops.lean ====
section
/-! SUPPORT. One lemma per shared operation that says once everything it does: the fields it writes and the actions it appends.
Later proofs cite these and unfold nothing. -/

namespace Sys2Proof.Machine

open Sys2Proof

/-! ### The encoder's operations (40_encoder.md) -/

theorem setVolume_spec (l r : Int) (s : State) :
    setVolume l r s = emit (attPair s.cfg (att l) (att r)) s := rfl

theorem hardMute_spec (s : State) : hardMute s = emit (attPair s.cfg 0 0) s := rfl

/-- A setter is its store, then one frame of the whole new shadow (R114 to R116, R118). -/
theorem setExternalClock_spec (b : Bool) (s : State) :
    setExternalClock b s = emit [.frameTx (frame s.cfg s.cfg.selStates (packDev s.cfg (storeExternalClock b s).dopt))]
      (storeExternalClock b s) := rfl

theorem setZeroCrossing_spec (b : Bool) (s : State) :
    setZeroCrossing b s = emit [.frameTx (frame s.cfg s.cfg.selGain (packGain s.cfg (storeZeroCrossing b s).gopt))]
      (storeZeroCrossing b s) := rfl

theorem setLinkChannels_spec (b : Bool) (s : State) :
    setLinkChannels b s = emit [.frameTx (frame s.cfg s.cfg.selGain (packGain s.cfg (storeLinkChannels b s).gopt))]
      (storeLinkChannels b s) := rfl

/-- The hard-mute frame is the bare address part (R86). -/
theorem frame_zero (c : Cfg) (sel : Word) : frame c sel 0 = c.addressPart sel := by
  simp [frame, Cfg.addressPart]

/-! ### The state machine (43_fsm.md) -/

theorem unmute_spec (s : State) :
    unmute s = emit (attPair s.cfg (att s.vol) (att s.vol) ++ [.display (.showVolume s.vol), .displayFlush])
      { s with mute := false } := by
  simp [unmute, setVolume, emit]

/-- The actions of a committed level change. -/
def volumeActions (c : Cfg) (v : Int) : List Action :=
  attPair c (att v) (att v) ++ [.persistWrite .volume v, .display (.showVolume v), .displayFlush]

theorem commitVolume_same (s : State) : commitVolume s.vol s = s := by simp [commitVolume]

theorem commitVolume_spec (v : Int) (s : State) :
    commitVolume v s = if v = s.vol then s else emit (volumeActions s.cfg v) { s with vol := v } := by
  unfold commitVolume volumeActions setVolume
  split <;> simp [emit]

/-- A volume step is the committed clamped level, after the unmute if muted (R172, R173). -/
theorem volumeStep_unmuted (d : Dir) (s : State) (h : s.mute = false) :
    volumeStep d s = commitVolume (clamp (s.vol + d.delta)) s := by
  simp [volumeStep, h]

theorem volumeStep_muted (d : Dir) (s : State) (h : s.mute = true) :
    volumeStep d s = volumeStep d (unmute s) := by
  simp [volumeStep, h, unmute_spec]

/-- The actions of `Unmute()` (R182). -/
def unmuteActions (c : Cfg) (v : Int) : List Action :=
  attPair c (att v) (att v) ++ [.display (.showVolume v), .displayFlush]

/-- The actions of a volume step (R172, R173). -/
def volumeStepActions (d : Dir) (s : State) : List Action :=
  (if s.mute then unmuteActions s.cfg s.vol else []) ++
    if clamp (s.vol + d.delta) = s.vol then [] else volumeActions s.cfg (clamp (s.vol + d.delta))

/-- A volume step in closed form (R172, R173). -/
theorem volumeStep_spec (d : Dir) (s : State) :
    volumeStep d s = { s with
      vol := clamp (s.vol + d.delta)
      mute := false
      out := s.out ++ volumeStepActions d s } := by
  cases h : s.mute
  · rw [volumeStep_unmuted d s h, commitVolume_spec]
    split
    · next g =>
      rw [g]
      simp [volumeStepActions, h, g]
      cases s
      simp_all
    · next g => simp [volumeStepActions, h, g, emit]
  · rw [volumeStep_muted d s h, volumeStep_unmuted _ _ (by simp [unmute_spec]), commitVolume_spec]
    split
    · next g =>
      simp [unmute_spec] at g
      simp [volumeStepActions, h, g, unmute_spec, unmuteActions, emit]
    · next g =>
      simp [unmute_spec] at g
      simp [volumeStepActions, h, g, unmute_spec, unmuteActions, emit]

/-- The actions of a source commit (R175). -/
def sourceActions (c : Cfg) (old new : Source) (muted : Bool) : List Action :=
  [.routeWrite old .disable, .routeWrite new .enable] ++ (if muted then attPair c 0 0 else []) ++
    [.persistWrite .source new.index, .display (.showSource new)] ++ (if muted then [.display .showMuted] else []) ++
    [.displayFlush]

theorem commitSource_spec (new : Source) (s : State) :
    commitSource new s = emit (sourceActions s.cfg s.src new s.mute) { s with src := new } := by
  cases h : s.mute <;> simp [commitSource, hardMute, sourceActions, h, emit]

theorem rearm_spec (now : Nat) (s : State) :
    rearm now s = { s with tEntry := if s.mode = .sourceSelect then now else s.tEntry } := by
  unfold rearm
  split <;> rfl

/-- A source change: the commit when the source is another one, and always the re-arm (R175). -/
theorem sourceChange_spec (new : Source) (now : Nat) (s : State) :
    sourceChange new now s =
      { s with
        src := new
        tEntry := if s.mode = .sourceSelect then now else s.tEntry
        out := s.out ++ if new = s.src then [] else sourceActions s.cfg s.src new s.mute } := by
  unfold sourceChange
  by_cases h : new = s.src
  · subst h
    simp [rearm_spec]
  · simp [h, rearm_spec, commitSource_spec, emit]

theorem pressQualifies_iff (s : State) (dur : Nat) : pressQualifies s dur = true ↔ s.mode = .run ∧ 50 < dur := by
  unfold pressQualifies
  rw [Bool.and_eq_true, decide_eq_true_iff, decide_eq_true_iff]
  exact Iff.rfl

theorem timeoutDue_iff (s : State) (now : Nat) :
    timeoutDue s now = true ↔ s.mode = .sourceSelect ∧ 5000 ≤ now - s.tEntry := by
  unfold timeoutDue
  rw [Bool.and_eq_true, decide_eq_true_iff, decide_eq_true_iff]
  exact Iff.rfl

theorem clockOk_iff (s : State) (now : Nat) :
    clockOk s now = true ↔ s.lastNow ≤ now ∧ (s.mode = .sourceSelect → s.tEntry ≤ now) := by
  unfold clockOk
  rw [Bool.and_eq_true, Bool.or_eq_true, decide_eq_true_iff, decide_eq_true_iff, decide_eq_true_iff]
  cases s.mode <;> simp

theorem phaseTimeout_spec (now : Nat) (s : State) :
    phaseTimeout now s = if s.mode = .sourceSelect ∧ 5000 ≤ now - s.tEntry then { s with mode := .run } else s := by
  unfold phaseTimeout
  simp only [timeoutDue_iff]
  rfl

theorem button_spec (dur now : Nat) (s : State) :
    button dur now s = if s.mode = .run ∧ 50 < dur then { s with mode := .sourceSelect, tEntry := now } else s := by
  unfold button
  simp only [pressQualifies_iff]

theorem toggleMute_spec (s : State) :
    toggleMute s = if s.mute then unmute s
      else emit (attPair s.cfg 0 0 ++ [.display .showMuted, .displayFlush]) { s with mute := true } := by
  unfold toggleMute hardMute
  split <;> simp [emit]

/-- `PlayCD` in closed form (R183). -/
theorem playCd_spec (now : Nat) (s : State) :
    playCd now s = { s with
      src := .cd
      mute := false
      tEntry := if s.mode = .sourceSelect then now else s.tEntry
      out := s.out ++ (if .cd = s.src then [] else sourceActions s.cfg s.src .cd s.mute) ++
        if s.mute then unmuteActions s.cfg s.vol else [] } := by
  cases h : s.mute <;> simp [playCd, sourceChange_spec, h, unmute_spec, unmuteActions, emit]

/-- The new-press test in one line: the toggle bit is not the one last seen (R132). -/
theorem isNew_spec (s : State) (t : Bool) : isNew s t = decide (s.tgl ≠ some t) := by
  unfold isNew
  cases s.tgl with
  | none => simp
  | some u => cases u <;> cases t <;> simp

/-- What DEDUP returns for a recognised pair (R133). -/
theorem dedupEvent_some (t : Bool) (e : AppEvent) (s : State) :
    dedupEvent t (some e) s = if continuous e = true ∨ s.tgl ≠ some t then some e else none := by
  simp [dedupEvent, isNew_spec]

@[simp] theorem dedupEvent_none (t : Bool) (s : State) : dedupEvent t none s = none := rfl

/-! ### Every handler only appends to `OUT` -/

/-- `t` differs from `s` in `OUT` by appended actions only. -/
def Appends (s t : State) : Prop := ∃ as, t.out = s.out ++ as

theorem Appends.rfl' (s : State) : Appends s s := ⟨[], by simp⟩

theorem Appends.trans' {s t u : State} (h : Appends s t) (g : Appends t u) : Appends s u := by
  obtain ⟨as, ha⟩ := h
  obtain ⟨bs, hb⟩ := g
  exact ⟨as ++ bs, by simp [ha, hb]⟩

end Sys2Proof.Machine
end

