-- ==== Sys2Proof/Laws/Handlers.lean ====
section
/-! SUPPORT. What the handlers, the phases of a tick, the tick and the boot step leave alone, and when `exec` runs the two
guarded instructions. -/

namespace Sys2Proof.Machine

open Sys2Proof

/-! ### The two guarded instructions -/

theorem execTick_next {now : Nat} {rc : Option Triple} {s t : State} :
    exec (.tick now rc) s = .next t ↔
      s.booted = true ∧ clockOk s now = true ∧ t = { tick now rc s with lastNow := now } := by
  simp only [exec, execTick]
  cases s.booted <;> cases clockOk s now <;> simp [eq_comm]

theorem execBoot_next {pv : Option Int} {ps : Option Nat} {s t : State} :
    exec (.boot pv ps) s = .next t ↔ s.booted = false ∧ t = boot pv ps s := by
  simp only [exec, execBoot]
  cases s.booted <;> simp [eq_comm]

/-! ### The two option rows (40_encoder.md R118) -/

theorem exec_gain (zcRaw link : Bool) (s : State) :
    exec (.gain zcRaw link) s = .next (emit [.frameTx (frame s.cfg s.cfg.selGain (packGain s.cfg s.gopt))] s) := rfl

theorem exec_states (clkRaw : Bool) (s : State) :
    exec (.states clkRaw) s = .next (emit [.frameTx (frame s.cfg s.cfg.selStates (packDev s.cfg s.dopt))] s) := rfl

/-! ### What no handler of the state machine touches -/

/-- The registers that are not the state machine's agree in `s` and `t`. -/
structure KeepsRest (s t : State) : Prop where
  tgl : t.tgl = s.tgl
  gopt : t.gopt = s.gopt
  dopt : t.dopt = s.dopt
  rot : t.rot = s.rot
  btn : t.btn = s.btn
  booted : t.booted = s.booted
  config : t.config = s.config
  inputs : t.inputs = s.inputs
  lastNow : t.lastNow = s.lastNow
  ret : t.ret = s.ret

theorem volumeStep_keeps (d : Dir) (s : State) : KeepsRest s (volumeStep d s) := by
  rw [volumeStep_spec]
  exact ⟨rfl, rfl, rfl, rfl, rfl, rfl, rfl, rfl, rfl, rfl⟩

theorem sourceChange_keeps (n : Source) (now : Nat) (s : State) : KeepsRest s (sourceChange n now s) := by
  rw [sourceChange_spec]
  exact ⟨rfl, rfl, rfl, rfl, rfl, rfl, rfl, rfl, rfl, rfl⟩

theorem toggleMute_keeps (s : State) : KeepsRest s (toggleMute s) := by
  rw [toggleMute_spec, unmute_spec]
  split <;> exact ⟨rfl, rfl, rfl, rfl, rfl, rfl, rfl, rfl, rfl, rfl⟩

theorem playCd_keeps (now : Nat) (s : State) : KeepsRest s (playCd now s) := by
  rw [playCd_spec]
  exact ⟨rfl, rfl, rfl, rfl, rfl, rfl, rfl, rfl, rfl, rfl⟩

theorem apply_keeps (e : AppEvent) (now : Nat) (s : State) : KeepsRest s (Machine.apply e now s) := by
  cases e with
  | selectSource n => exact sourceChange_keeps n now s
  | volumeStep d => exact volumeStep_keeps d s
  | toggleMute => exact toggleMute_keeps s
  | playCd => exact playCd_keeps now s

theorem rotary_keeps (d : Dir) (now : Nat) (s : State) : KeepsRest s (rotary d now s) := by
  unfold rotary
  split
  · exact volumeStep_keeps d s
  · exact sourceChange_keeps _ now s

/-- No application event changes the mode (43_fsm.md R175, R181, R183). -/
theorem apply_mode (e : AppEvent) (now : Nat) (s : State) : (Machine.apply e now s).mode = s.mode := by
  cases e <;> simp only [Machine.apply, sourceChange_spec, volumeStep_spec, toggleMute_spec, playCd_spec]
  split <;> simp [unmute_spec]

theorem rotary_mode (d : Dir) (now : Nat) (s : State) : (rotary d now s).mode = s.mode := by
  unfold rotary
  split <;> simp [volumeStep_spec, sourceChange_spec]

/-! ### The phases (42_aggregator.md R151) -/

theorem phaseRemote_some (now : Nat) (r : Triple) (s : State) :
    phaseRemote now (some r) s = match dedupEvent r.toggle (classify s.cfg r.addr r.cmd) s with
      | none => track r.toggle s
      | some e => Machine.apply e now (track r.toggle s) := rfl

theorem phaseRotary_zero (now : Nat) (s : State) (h : s.rot = 0) : phaseRotary now s = s := by
  cases s
  simp_all [phaseRotary, signDir, clearRot]

theorem phaseRotary_up (now : Nat) (s : State) (h : 0 < s.rot) : phaseRotary now s = rotary .up now (clearRot s) := by
  simp [phaseRotary, signDir, h]

theorem phaseRotary_down (now : Nat) (s : State) (h : s.rot < 0) :
    phaseRotary now s = rotary .down now (clearRot s) := by
  simp [phaseRotary, signDir, h, Int.not_lt.mpr (Int.le_of_lt h)]

theorem phaseRotary_mode (now : Nat) (s : State) : (phaseRotary now s).mode = s.mode := by
  unfold phaseRotary
  split <;> simp [rotary_mode]

theorem phaseRotary_rot (now : Nat) (s : State) : (phaseRotary now s).rot = 0 := by
  unfold phaseRotary
  split
  · rfl
  · exact (rotary_keeps _ now (clearRot s)).rot

theorem phaseRotary_btn (now : Nat) (s : State) : (phaseRotary now s).btn = s.btn := by
  unfold phaseRotary
  split
  · rfl
  · exact (rotary_keeps _ now (clearRot s)).btn

theorem phaseRemote_mode (now : Nat) (rc : Option Triple) (s : State) : (phaseRemote now rc s).mode = s.mode := by
  cases rc with
  | none => rfl
  | some r =>
    rw [phaseRemote_some]
    split <;> simp [apply_mode]

theorem phaseRemote_cells (now : Nat) (rc : Option Triple) (s : State) :
    (phaseRemote now rc s).rot = s.rot ∧ (phaseRemote now rc s).btn = s.btn := by
  cases rc with
  | none => exact ⟨rfl, rfl⟩
  | some r =>
    rw [phaseRemote_some]
    split
    · exact ⟨rfl, rfl⟩
    · next e _ => exact ⟨(apply_keeps e now (track r.toggle s)).rot, (apply_keeps e now (track r.toggle s)).btn⟩

theorem phaseButton_none (now : Nat) (s : State) (h : s.btn = none) : phaseButton now s = s := by
  cases s
  simp_all [phaseButton, clearBtn]

theorem phaseButton_some (now dur : Nat) (s : State) (h : s.btn = some dur) :
    phaseButton now s = button dur now (clearBtn s) := by
  simp [phaseButton, h]

/-! ### Boot (70_reset_and_hazards.md R232, R233) -/

/-- The boot step in closed form. -/
theorem boot_spec (pv : Option Int) (ps : Option Nat) (s : State) :
    boot pv ps s = { bootRegisters pv ps s with
      booted := true
      out := s.out ++ [.frameTx (frame s.cfg s.cfg.selStates (packDev s.cfg ⟨true, false⟩)),
        .frameTx (frame s.cfg s.cfg.selGain (packGain s.cfg ⟨false, false, 0⟩)),
        .routeWrite .phono .disable, .routeWrite .media .disable, .routeWrite .cd .disable, .routeWrite .tuner .disable,
        .routeWrite (bootSrc ps) .enable] ++ attPair s.cfg (att (bootVol pv)) (att (bootVol pv)) ++
        [.display (.showSource (bootSrc ps)), .display (.showVolume (bootVol pv)), .displayFlush] } := by
  simp [boot, bootOutputs, bootRegisters, sendGain, sendStates, setVolume, emit, attPair]

end Sys2Proof.Machine
end

