-- ==== Sys2Proof/Laws/PerInstr.lean ====
section
/-! SUPPORT. Per-instruction laws. The family `EncodingShape`: what the encoder makes of an instruction is what its format
says (30_encoding.md R80): a frame is two bytes, a remote command a triple, an operation or an event no bit pattern. -/

namespace Sys2Proof.Laws.EncodingShape

open Sys2Proof

/-- The encoding of `i`, in every configuration, has the shape of `i`'s format. -/
def Statement (i : Instr) : Prop :=
  ∀ c : Cfg, match i.format with
    | .frame16 => ∃ w, encode c i = .bytes (frameBytes w)
    | .rc => ∃ r, encode c i = .triple r
    | .op | .ev => encode c i = .call i

theorem att (v : Int) : Statement (.att v) := fun _ => rfl
theorem setVolume (l : Int) (r : Int) : Statement (.setVolume l r) := fun _ => rfl
theorem mute : Statement .mute := fun _ => rfl
theorem setGain : Statement .setGain := fun _ => rfl
theorem setExternalClock (b : Bool) : Statement (.setExternalClock b) := fun _ => rfl
theorem setZeroCrossing (b : Bool) : Statement (.setZeroCrossing b) := fun _ => rfl
theorem setLinkChannels (b : Bool) : Statement (.setLinkChannels b) := fun _ => rfl
theorem unmute : Statement .unmute := fun _ => rfl
theorem attL (v : Int) : Statement (.attL v) := fun _ => ⟨_, rfl⟩
theorem attR (v : Int) : Statement (.attR v) := fun _ => ⟨_, rfl⟩
theorem attLMute : Statement .attLMute := fun _ => ⟨_, rfl⟩
theorem attRMute : Statement .attRMute := fun _ => ⟨_, rfl⟩
theorem gain (z : Bool) (l : Bool) : Statement (.gain z l) := fun _ => ⟨_, rfl⟩
theorem states (k : Bool) : Statement (.states k) := fun _ => ⟨_, rfl⟩
theorem rcSrc1 (t : Bool) : Statement (.rcSrc1 t) := fun _ => ⟨_, rfl⟩
theorem rcSrc2 (t : Bool) : Statement (.rcSrc2 t) := fun _ => ⟨_, rfl⟩
theorem rcSrc3 (t : Bool) : Statement (.rcSrc3 t) := fun _ => ⟨_, rfl⟩
theorem rcSrc4 (t : Bool) : Statement (.rcSrc4 t) := fun _ => ⟨_, rfl⟩
theorem rcVolUp (t : Bool) : Statement (.rcVolUp t) := fun _ => ⟨_, rfl⟩
theorem rcVolDown (t : Bool) : Statement (.rcVolDown t) := fun _ => ⟨_, rfl⟩
theorem rcMute (t : Bool) : Statement (.rcMute t) := fun _ => ⟨_, rfl⟩
theorem rcPlay (t : Bool) : Statement (.rcPlay t) := fun _ => ⟨_, rfl⟩
theorem rcOther (t : Bool) (a : Nat) (k : Nat) : Statement (.rcOther t a k) := fun _ => ⟨_, rfl⟩
theorem volUp : Statement .volUp := fun _ => rfl
theorem volDown : Statement .volDown := fun _ => rfl
theorem selectSource (n : Source) (now : Nat) : Statement (.selectSource n now) := fun _ => rfl
theorem toggleMute : Statement .toggleMute := fun _ => rfl
theorem playCd (now : Nat) : Statement (.playCd now) := fun _ => rfl
theorem rotUp (now : Nat) : Statement (.rotUp now) := fun _ => rfl
theorem rotDown (now : Nat) : Statement (.rotDown now) := fun _ => rfl
theorem btn (d : Nat) (now : Nat) : Statement (.btn d now) := fun _ => rfl
theorem timeout : Statement .timeout := fun _ => rfl
theorem boot (pv : Option Int) (ps : Option Nat) : Statement (.boot pv ps) := fun _ => rfl
theorem tick (now : Nat) (rc : Option Triple) : Statement (.tick now rc) := fun _ => rfl
theorem cbRot (d : Int) : Statement (.cbRot d) := fun _ => rfl
theorem cbBtn (d : Nat) : Statement (.cbBtn d) := fun _ => rfl

end Sys2Proof.Laws.EncodingShape
end

