-- ==== Sys2Proof/Tests/Slice0.lean ====
section
/-! SUPPORT. Small tests. Expected results are the spec's own worked examples and vectors (95_test_vectors.md: W, E, T, M, F, B
rows; the words of 30_encoding.md's frame table) or hand calculation from a rule, never the model's answer. The last part
shows, for every statement with hypotheses, a state and operands that meet them. -/

namespace Sys2Proof.Tests

open Sys2Proof Sys2Proof.Machine

/-! ### Helpers -/

/-- The state of section 2.5 of 95_test_vectors.md before a row: booted, level −100, source 1, unmuted, Run, nothing seen. -/
def base : State := { State.reset with vol := -100, booted := true }

/-- `base` in SourceSelect since time 0. -/
def selecting : State := { base with mode := .sourceSelect }

/-- Section 2.2's start: chip address 2, the boot values of the shadows. -/
def chip2 : State := { base with config := admittedRef0 2 }

/-- The result is a next state that passes the check. -/
def after (r : Result) (p : State → Bool) : Bool :=
  match r with
  | .next t => p t
  | .fault _ | .refused _ => false

/-- The actions of a result that runs from an empty trace are exactly these. -/
def emits (r : Result) (as : List Action) : Bool := after r fun t => decide (t.out = as)

/-- Frames with these words. -/
def tx (ws : List Word) : List Action := ws.map .frameTx

/-! ### Well-formedness: each check refuses an ill-formed term -/

theorem test_wf_selects_distinct : ({ ref0 0 with selAttR := 0x0010#16 } : Cfg).wf = false := by decide
theorem test_wf_selects_clear : ({ ref0 0 with selGain := 0x0009#16 } : Cfg).selectsClearOfChip = false := by decide
theorem test_wf_ca_lsb_range : ({ ref0 0 with caLsb := 6 } : Cfg).selectsClearOfChip = false := by decide
theorem test_wf_address_low : ({ ref0 0 with selStates := 0x0080#16 } : Cfg).addressLow = false := by decide
theorem test_wf_option_in_address : ({ ref0 0 with clkBit := 4 } : Cfg).optionsPlaced = false := by decide
theorem test_wf_option_out_of_word : ({ ref0 0 with linkBit := 16 } : Cfg).optionsPlaced = false := by decide
theorem test_wf_option_bits_apart : ({ ref0 0 with linkBit := 8 } : Cfg).optionsPlaced = false := by decide
theorem test_wf_gain_field_apart : ({ ref0 0 with gainLsb := 10 } : Cfg).optionsPlaced = false := by decide
theorem test_wf_clk_softstep_apart : ({ ref0 0 with softstepBit := 9 } : Cfg).optionsPlaced = false := by decide
theorem test_wf_remote_addresses : ({ ref0 0 with rcAddrTransport := 16 } : Cfg).remoteDistinct = false := by decide
theorem test_wf_remote_commands : ({ ref0 0 with cmdMute := 4 } : Cfg).remoteDistinct = false := by decide
theorem test_wf_remote_widths : ({ ref0 0 with cmdPlay := 64 } : Cfg).remoteFits = false := by decide
theorem test_wf_att_level : (Instr.att 1).wf (ref0 0) = false := by decide
theorem test_wf_setVolume_level : (Instr.setVolume 0 (-448)).wf (ref0 0) = false := by decide
theorem test_wf_attL_level : (Instr.attL (-448)).wf (ref0 0) = false := by decide
theorem test_wf_attR_level : (Instr.attR 1).wf (ref0 0) = false := by decide
theorem test_wf_rcOther_named_pair : (Instr.rcOther true 16 13).wf (ref0 0) = false := by decide

/-! ### Decoding: one word per frame row, one triple per remote row, the calls -/

/-- `ddddddddd00100aa`: code 32 − (−447) = 479 = 111011111, address 1. -/
theorem test_decode_attL : decodeTableWord 16 0b1110111110010001 = some (.attL (-447)) := by decide
/-- `ddddddddd00101aa`: code 32 = 000100000, address 0. -/
theorem test_decode_attR : decodeTableWord 16 0b0001000000010100 = some (.attR 0) := by decide
theorem test_decode_attLMute : decodeTableWord 16 0b0000000000010010 = some .attLMute := by decide
theorem test_decode_attRMute : decodeTableWord 16 0b0000000000010111 = some .attRMute := by decide
/-- `l000000z000010aa`. -/
theorem test_decode_gain : decodeTableWord 16 0b0000000100001011 = some (.gain true false) := by decide
/-- `000000c0000011aa`. -/
theorem test_decode_states : decodeTableWord 16 0b0000001000001101 = some (.states true) := by decide
/-- R93: code 31, code 480, a bit in [6:5], a foreign option bit; R53: one byte and four. -/
theorem test_decode_refuses :
    [0x0F90, 0xF010, 0x1030, 0x0408, 0x000D + 0x0800].all (fun w => decide (decodeTableWord 16 w = none)) = true ∧
    decode (ref0 0) (.bytes [0x10#8]) = .error .notOneFrame ∧
    decode (ref0 0) (.bytes [0x10#8, 0x10#8, 0x10#8, 0x14#8]) = .error .notOneFrame ∧
    decode (ref0 0) (.bytes [0x10#8, 0x11#8]) = .error .addressNeverProduced := by decide
/-- The REF0 column of R89's table. -/
theorem test_decode_triples :
    let d (a k : Nat) := decode (ref0 0) (.triple ⟨true, a, k⟩)
    d 16 1 = .ok (.rcSrc1 true) ∧ d 16 2 = .ok (.rcSrc2 true) ∧ d 16 3 = .ok (.rcSrc3 true) ∧
    d 16 4 = .ok (.rcSrc4 true) ∧ d 16 16 = .ok (.rcVolUp true) ∧ d 16 17 = .ok (.rcVolDown true) ∧
    d 16 13 = .ok (.rcMute true) ∧ d 20 53 = .ok (.rcPlay true) ∧ d 16 53 = .ok (.rcOther true 16 53) ∧
    d 20 16 = .ok (.rcOther true 20 16) := by decide
/-- Operations and events have no bit pattern and stand for themselves (R80); frames and triples do not come so. -/
theorem test_decode_calls :
    [Instr.att 0, .setVolume 0 0, .mute, .setGain, .setExternalClock true, .setZeroCrossing true, .setLinkChannels true,
      .unmute, .volUp, .volDown, .selectSource .cd 5, .toggleMute, .playCd 5, .rotUp 5, .rotDown 5, .btn 51 5, .timeout,
      .boot none none, .tick 5 none, .cbRot (-1), .cbBtn 51].all
      (fun i => decide (decode (ref0 0) (.call i) = .ok i)) = true ∧
    decode (ref0 0) (.call (.attL 0)) = .error .hasAnEncoding ∧
    decode (ref0 0) (.call (.rcMute true)) = .error .hasAnEncoding := by decide
/-- A word of the table runs as the first instruction after reset (R84, with the shadow's reset bits of R29, R31). -/
theorem test_first_word_runs :
    after (step (State.reset.withFetchWord 16 0x0008)) (fun t => decide (t.out = tx [0x0008#16])) = true := by decide

/-! ### The encoder, vectors W1 to W3, E1 to E10 (chip address 2) -/

theorem test_att : att 0 = 0x1000#16 ∧ att (-1) = 0x1080#16 ∧ att (-447) = 0xEF80#16 := by decide
/-- Decision D8's extension, section 2.1. -/
theorem test_att_out_of_domain : att (-448) = 0xF000#16 ∧ att (-480) = 0 ∧ att 1 = 0x0F80#16 ∧ att 33 = 65408#16 := by
  decide
theorem test_exec_att : after (exec (.att (-1)) base) (fun t => decide (t.ret = .word 4224#16 ∧ t.out = [])) = true := by
  decide
theorem test_setZeroCrossing_off :
    after (exec (.setZeroCrossing false) chip2) (fun t => decide (t.gopt = ⟨true, false, 0⟩ ∧ t.out = tx [0x010A#16]))
      = true := by decide
/-- E3: the link bit is kept. -/
theorem test_setZeroCrossing_on :
    after (exec (.setZeroCrossing true) { chip2 with gopt := ⟨true, true, 0⟩ })
      (fun t => decide (t.gopt = ⟨false, true, 0⟩ ∧ t.out = tx [0x800A#16])) = true := by decide
theorem test_setLinkChannels :
    after (exec (.setLinkChannels true) { chip2 with gopt := ⟨true, false, 0⟩ })
      (fun t => decide (t.gopt = ⟨true, true, 0⟩ ∧ t.out = tx [0x810A#16])) = true := by decide
theorem test_setExternalClock_on :
    after (exec (.setExternalClock true) chip2) (fun t => decide (t.dopt = ⟨false, false⟩ ∧ t.out = tx [0x000E#16]))
      = true := by decide
theorem test_setExternalClock_off : emits (exec (.setExternalClock false) chip2) (tx [0x020E#16]) = true := by decide
theorem test_setGain : emits (exec .setGain { chip2 with gopt := ⟨false, true, 0⟩ }) (tx [0x800A#16]) = true := by decide
theorem test_setVolume : emits (exec (.setVolume 0 (-447)) chip2) (tx [0x1012#16, 0xEF96#16]) = true := by decide
theorem test_setVolume_again : emits (exec (.setVolume (-1) (-256)) chip2) (tx [0x1092#16, 0x9016#16]) = true := by decide
theorem test_mute : emits (exec .mute chip2) (tx [0x0012#16, 0x0016#16]) = true := by decide
/-- R117's example, chip address 0. -/
theorem test_unmute : emits (exec .unmute base) (tx [0x4210#16, 0x4214#16]) = true := by decide
/-- E7's bytes on the bus. -/
theorem test_bus_bytes :
    after (exec (.setVolume 0 (-447)) chip2) (fun t => decide (t.busTrace =
      [.busClaim, .csLow, .byte 0x10#8, .byte 0x12#8, .csHigh, .busRelease,
        .busClaim, .csLow, .byte 0xEF#8, .byte 0x96#8, .csHigh, .busRelease])) = true := by decide

/-- W18's readings in hundredths of a decibel, and the four names of R23. -/
theorem test_display_numbers :
    hundredthsDb (-447) = -11175 ∧ hundredthsDb (-1) = -25 ∧ hundredthsDb 0 = 0 ∧
    [Source.phono, .media, .cd, .tuner].map Source.name = ["Phono", "Media", "CD", "Tuner"] := by decide

/-! ### Frame rows -/

theorem test_exec_attL : emits (exec (.attL (-447)) chip2) (tx [0xEF92#16]) = true := by decide
theorem test_exec_attR : emits (exec (.attR (-447)) chip2) (tx [0xEF96#16]) = true := by decide
theorem test_exec_attLMute : emits (exec .attLMute chip2) (tx [0x0012#16]) = true := by decide
theorem test_exec_attRMute : emits (exec .attRMute chip2) (tx [0x0016#16]) = true := by decide
theorem test_exec_gain : emits (exec (.gain true false) { chip2 with gopt := ⟨true, false, 0⟩ }) (tx [0x010A#16]) = true := by
  decide
/-- R118 and R31: a word with other bits than the shadow's still sends the shadow, and writes nothing. -/
theorem test_exec_gain_other_bits :
    after (exec (.gain true false) { chip2 with gopt := ⟨false, true, 0⟩ })
      (fun t => decide (t.gopt = ⟨false, true, 0⟩ ∧ t.out = tx [0x800A#16])) = true := by decide
theorem test_exec_states : emits (exec (.states true) chip2) (tx [0x020E#16]) = true := by decide
theorem test_exec_states_other_bit :
    after (exec (.states true) { chip2 with dopt := ⟨false, false⟩ })
      (fun t => decide (t.dopt = ⟨false, false⟩ ∧ t.out = tx [0x000E#16])) = true := by decide

/-! ### Deduplicator, vectors T1 to T11 -/

/-- The event handed back and the tracker after. -/
def hands (r : Result) (e : Option AppEvent) (t : Bool) : Bool :=
  after r fun u => decide (u.ret = .event e ∧ u.tgl = some t ∧ u.out = [])

/-- `base` with a toggle bit seen. -/
def seen (t : Bool) : State := { base with tgl := some t }

theorem test_rcSrc1_first : hands (exec (.rcSrc1 false) base) (some (.selectSource .phono)) false = true := by decide
theorem test_rcSrc1_same : hands (exec (.rcSrc1 false) (seen false)) none false = true := by decide
theorem test_rcSrc2_first : hands (exec (.rcSrc2 false) base) (some (.selectSource .media)) false = true := by decide
/-- T12: another key, the same bit. -/
theorem test_rcSrc3_same : hands (exec (.rcSrc3 true) (seen true)) none true = true := by decide
theorem test_rcSrc3_new : hands (exec (.rcSrc3 true) (seen false)) (some (.selectSource .cd)) true = true := by decide
theorem test_rcSrc4_new : hands (exec (.rcSrc4 true) (seen false)) (some (.selectSource .tuner)) true = true := by decide
theorem test_rcVolUp_held : hands (exec (.rcVolUp true) (seen true)) (some (.volumeStep .up)) true = true := by decide
theorem test_rcVolDown : hands (exec (.rcVolDown false) (seen true)) (some (.volumeStep .down)) false = true := by decide
theorem test_rcMute_first : hands (exec (.rcMute true) base) (some .toggleMute) true = true := by decide
theorem test_rcMute_same : hands (exec (.rcMute true) (seen true)) none true = true := by decide
theorem test_rcPlay_same : hands (exec (.rcPlay false) (seen false)) none false = true := by decide
theorem test_rcPlay_new : hands (exec (.rcPlay true) (seen false)) (some .playCd) true = true := by decide
theorem test_rcOther_moves_tracker : hands (exec (.rcOther true 20 1) (seen false)) none true = true := by decide

/-! ### State machine -/

/-- F5's outputs, from level −1. -/
theorem test_volUp :
    after (exec .volUp { base with vol := -1 }) (fun t => decide (t.vol = 0 ∧ t.out = tx [0x1010#16, 0x1014#16] ++
      [.persistWrite .volume 0, .display (.showVolume 0), .displayFlush])) = true := by decide
/-- F2: muted at the top. -/
theorem test_volUp_muted_at_top :
    after (exec .volUp { base with vol := 0, mute := true }) (fun t => decide (t.vol = 0 ∧ t.mute = false ∧
      t.out = tx [0x1010#16, 0x1014#16] ++ [.display (.showVolume 0), .displayFlush])) = true := by decide
/-- F6: muted, two pairs. -/
theorem test_volDown_muted :
    after (exec .volDown { base with vol := -10, mute := true }) (fun t => decide (t.vol = -11 ∧ t.mute = false ∧
      t.out = tx [0x1510#16, 0x1514#16] ++ [.display (.showVolume (-10)), .displayFlush] ++ tx [0x1590#16, 0x1594#16] ++
        [.persistWrite .volume (-11), .display (.showVolume (-11)), .displayFlush])) = true := by decide
/-- F3: the bottom. -/
theorem test_volDown_at_bottom : emits (exec .volDown { base with vol := -447 }) [] = true := by decide
/-- P3 step 3: source 2 while muted. -/
theorem test_selectSource_muted :
    after (exec (.selectSource .media 20) { base with mute := true }) (fun t => decide (t.src = .media ∧ t.mute = true ∧
      t.out = [.routeWrite .phono .disable, .routeWrite .media .enable] ++ tx [0x0010#16, 0x0014#16] ++
        [.persistWrite .source 2, .display (.showSource .media), .display .showMuted, .displayFlush])) = true := by decide
/-- F14: the active source only re-arms. -/
theorem test_selectSource_same :
    after (exec (.selectSource .phono 100) selecting) (fun t => decide (t.tEntry = 100 ∧ t.out = [])) = true := by decide
/-- R181's example, both halves. -/
theorem test_toggleMute_on :
    after (exec .toggleMute base) (fun t => decide (t.mute = true ∧ t.vol = -100 ∧
      t.out = tx [0x0010#16, 0x0014#16] ++ [.display .showMuted, .displayFlush])) = true := by decide
theorem test_toggleMute_off :
    after (exec .toggleMute { base with mute := true }) (fun t => decide (t.mute = false ∧
      t.out = tx [0x4210#16, 0x4214#16] ++ [.display (.showVolume (-100)), .displayFlush])) = true := by decide
/-- F21: already on CD, muted. -/
theorem test_playCd_muted :
    after (exec (.playCd 100) { base with src := .cd, mute := true }) (fun t => decide (t.mute = false ∧
      t.out = tx [0x4210#16, 0x4214#16] ++ [.display (.showVolume (-100)), .displayFlush])) = true := by decide
/-- F20: already on CD, in SourceSelect. -/
theorem test_playCd_rearms :
    after (exec (.playCd 100) { selecting with src := .cd }) (fun t => decide (t.tEntry = 100 ∧ t.out = [])) = true := by
  decide
/-- F7: 4 wraps to 1. -/
theorem test_rotUp_wraps :
    after (exec (.rotUp 100) { selecting with src := .tuner }) (fun t => decide (t.src = .phono ∧ t.tEntry = 100 ∧
      t.out = [.routeWrite .tuner .disable, .routeWrite .phono .enable, .persistWrite .source 1,
        .display (.showSource .phono), .displayFlush])) = true := by decide
/-- F8: 1 wraps to 4. -/
theorem test_rotDown_wraps :
    after (exec (.rotDown 100) selecting) (fun t => decide (t.src = .tuner ∧ t.tEntry = 100)) = true := by decide
/-- F18's level by the knob in Run. -/
theorem test_rotUp_in_run : after (exec (.rotUp 100) base) (fun t => decide (t.vol = -99)) = true := by decide
theorem test_rotDown_in_run : after (exec (.rotDown 100) base) (fun t => decide (t.vol = -101)) = true := by decide
/-- F16 and F17: 50 is not over 50, 51 is. -/
theorem test_btn_short : after (exec (.btn 50 100) base) (fun t => decide (t = base)) = true := by decide
theorem test_btn_enters :
    after (exec (.btn 51 100) base) (fun t => decide (t.mode = .sourceSelect ∧ t.tEntry = 100 ∧ t.out = [])) = true := by
  decide
theorem test_timeout : after (exec .timeout selecting) (fun t => decide (t.mode = .run ∧ t.out = [])) = true := by decide

/-! ### Agents -/

/-- B1. -/
theorem test_boot_defaults :
    after (exec (.boot none none) State.reset) (fun t => decide (t.vol = -447 ∧ t.src = .phono ∧ t.out =
      tx [0x020C#16, 0x0008#16] ++ [.routeWrite .phono .disable, .routeWrite .media .disable, .routeWrite .cd .disable,
        .routeWrite .tuner .disable, .routeWrite .phono .enable] ++ tx [0xEF90#16, 0xEF94#16] ++
        [.display (.showSource .phono), .display (.showVolume (-447)), .displayFlush])) = true := by decide
/-- B3 and B4: out of range above and below. -/
theorem test_boot_out_of_range :
    after (exec (.boot (some 5) (some 7)) State.reset) (fun t => decide (t.vol = -447 ∧ t.src = .phono)) = true ∧
    after (exec (.boot (some (-448)) (some 0)) State.reset) (fun t => decide (t.vol = -447 ∧ t.src = .phono)) = true := by
  decide
/-- F12: the timeout first, then the knob is a volume step. -/
theorem test_tick_timeout_before_knob :
    after (exec (.tick 5000 none) { selecting with src := .media, rot := 1 }) (fun t => decide (t.mode = .run ∧
      t.vol = -99 ∧ t.src = .media ∧ t.rot = 0)) = true := by decide
/-- F23: remote, then knob, then button. -/
theorem test_tick_order :
    after (exec (.tick 100 (some ⟨false, 16, 4⟩)) { base with rot := 1, btn := some 100 }) (fun t => decide
      (t.src = .tuner ∧ t.vol = -99 ∧ t.mode = .sourceSelect ∧ t.tEntry = 100 ∧ t.btn = none ∧
        t.out = [.routeWrite .phono .disable, .routeWrite .tuner .enable, .persistWrite .source 4,
          .display (.showSource .tuner), .displayFlush] ++ tx [0x4190#16, 0x4194#16] ++
          [.persistWrite .volume (-99), .display (.showVolume (-99)), .displayFlush])) = true := by decide
/-- M4: deltas add up. -/
theorem test_cbRot : after (exec (.cbRot (-3)) { base with rot := 1 }) (fun t => decide (t.rot = -2)) = true := by decide
/-- M6: the latest press is kept. -/
theorem test_cbBtn :
    after (exec (.cbBtn 30) { base with btn := some 200 }) (fun t => decide (t.btn = some 30)) = true := by decide

/-! ### The hypotheses of the statements are met -/

theorem witness_DecodeOfEncodeIsTheInstruction :
    (Instr.attL (-447)).wf (admittedRef0 3).cfg = true ∧ (Instr.attR 0).wf (admittedRef0 3).cfg = true ∧
    (Instr.rcOther true 16 53).wf (admittedRef0 3).cfg = true := by decide
theorem witness_EncodeOfDecodeIsTheInput :
    decode (admittedRef0 0).cfg (.bytes [0xEF#8, 0x90#8]) = .ok (.attL (-447)) ∧
    decode (admittedRef0 0).cfg (.triple ⟨true, 20, 53⟩) = .ok (.rcPlay true) := by decide
theorem witness_OnlyProducibleFramesDecode :
    decode (admittedRef0 0).cfg (.bytes [0x00#8, 0x10#8]) = .ok .attLMute ∧
    ([1, 31, 480, 511].all fun code => decide ((1 ≤ code ∧ code ≤ 31) ∨ (480 ≤ code ∧ code ≤ 511))) = true := by decide
theorem witness_RemoteTableClassifies :
    let c := (admittedRef0 0).cfg
    ¬ (20 = c.rcAddrPreamp ∧ (16 = c.cmdSrc1 ∨ 16 = c.cmdSrc2 ∨ 16 = c.cmdSrc3 ∨ 16 = c.cmdSrc4 ∨ 16 = c.cmdVolUp ∨
      16 = c.cmdVolDown ∨ 16 = c.cmdMute)) ∧ ¬ (20 = c.rcAddrTransport ∧ 16 = c.cmdPlay) := by decide
theorem witness_PartsOfAFrameShareNoBit :
    (0xEF80#16 : Word) &&& (admittedRef0 3).cfg.addrMask = 0 ∧
    (0x0010#16 ||| ((1#2).setWidth 16 <<< (admittedRef0 3).cfg.caLsb) : Word) =
      0x0010#16 ||| ((1#2).setWidth 16 <<< (admittedRef0 3).cfg.caLsb) := by decide
theorem witness_HighByteGoesFirst : ∀ w, Action.displayFlush ≠ .frameTx w := fun _ h => (nomatch h)
theorem witness_AttenuationFormula : (-447 : Int) ≤ -447 ∧ (-447 : Int) < 0 ∧ (0 : Int) ≤ 0 ∧ att 0 = att 0 := by decide
theorem witness_AttenuationLayout : ((-447 : Int) ≤ -447 ∧ (-447 : Int) ≤ 0) ∧ ((-447 : Int) ≤ 0 ∧ (0 : Int) ≤ 0) := by
  decide
theorem witness_RepeatingAnOperationRepeatsItsFrames :
    (Instr.setZeroCrossing false).format = .op ∧
    ∃ t u, exec (.setZeroCrossing false) base = .next t ∧ exec (.setZeroCrossing false) t = .next u :=
  ⟨rfl, _, _, rfl, rfl⟩
theorem witness_OptionBitsStandAtTheirPositions :
    (⟨true, true, 0⟩ : GainOpts).gain = 0 ∧ (⟨true, false⟩ : DevOpts).softstepRaw = false := ⟨rfl, rfl⟩
theorem witness_EachFrameRowSendsItsWord :
    encodeWord chip2.cfg (.attL (-447)) = some 0xEF92#16 ∧
    (encodeWord chip2.cfg (.gain false false) = some 0x000A#16 ∧ chip2.gopt = ⟨false, false, 0⟩) ∧
    (encodeWord chip2.cfg (.states true) = some 0x020E#16 ∧ chip2.dopt = ⟨true, false⟩) := by decide
theorem witness_EveryTripleMovesTheTracker :
    ∃ u, exec (.tick 100 (some ⟨true, 7, 99⟩)) (seen false) = .next u := ⟨_, rfl⟩
theorem witness_OneShotNeedsANewToggle :
    (∀ d, AppEvent.toggleMute ≠ .volumeStep d) ∧ (seen true).tgl = some true ∧ (seen false).tgl = some false := by
  refine ⟨fun d => ?_, rfl, rfl⟩
  cases d <;> decide
theorem witness_UnrecognisedRowReturnsNothing :
    base.cfg.recognised 16 53 = false ∧ base.cfg.recognised 16 13 = true := by decide
theorem witness_TickIsItsPhases :
    selecting.booted = true ∧ selecting.lastNow ≤ 0 ∧ (selecting.mode = .sourceSelect → selecting.tEntry ≤ 0) := by decide
theorem witness_BootedTickAlwaysCompletes : selecting.booted = true ∧ TimerInv selecting ∧ selecting.lastNow ≤ 0 :=
  ⟨rfl, ⟨fun _ h => (nomatch h), fun _ _ => Nat.le_refl 0⟩, Nat.le_refl 0⟩
/-- One clause each; the clock clauses meet at the sample 10. -/
theorem witness_TickAndBootRefusals :
    State.reset.booted = false ∧ (base.booted = true ∧ 9 < ({ base with lastNow := 10 } : State).lastNow) ∧
    (({ selecting with tEntry := 10 } : State).mode = .sourceSelect ∧ 9 < ({ selecting with tEntry := 10 } : State).tEntry) ∧
    (({ selecting with lastNow := 10, tEntry := 10 } : State).lastNow ≤ 10 ∧
      ({ selecting with lastNow := 10, tEntry := 10 } : State).tEntry ≤ 10) := by
  decide
theorem witness_EmptyTickChangesNothing :
    selecting.booted = true ∧ selecting.lastNow ≤ 4999 ∧ (selecting.mode = .sourceSelect → selecting.tEntry ≤ 4999) ∧
    selecting.rot = 0 ∧ selecting.btn = none ∧ (selecting.mode = .sourceSelect → 4999 - selecting.tEntry < 5000) := by
  decide
theorem witness_CallbacksTouchOnlyTheirCell :
    ({ State.reset with rot := 3, btn := some 60 } : State).booted = false ∧
    ∃ t u, exec (.boot none none) { State.reset with rot := 3, btn := some 60 } = .next t ∧
      exec (.tick 0 none) t = .next u := ⟨rfl, _, _, rfl, rfl⟩
theorem witness_TickEmptiesTheCellsAndDropsTheMagnitude :
    (∃ t, exec (.tick 1 none) { base with rot := 3, btn := some 60 } = .next t) ∧ ((0 : Int) < 1 ∧ (0 : Int) < 9) ∧
    ((-1 : Int) < 0 ∧ (-9 : Int) < 0) := ⟨⟨_, rfl⟩, by decide⟩
theorem witness_VolumeStepUnmuted :
    LevelInv base ∧ base.mute = false ∧ base.vol < 0 ∧ -447 < base.vol ∧
    LevelInv { base with vol := 0 } ∧ LevelInv { base with vol := -447 } :=
  ⟨⟨by decide, by decide, rfl, rfl⟩, rfl, by decide, by decide, ⟨by decide, by decide, rfl, rfl⟩,
    ⟨by decide, by decide, rfl, rfl⟩⟩
theorem witness_VolumeStepFirstUnmutes : ({ base with mute := true } : State).mute = true := rfl
theorem witness_SelectSourceCommitsAndRearms : Source.cd ≠ base.src ∧ Source.phono = base.src := by decide
theorem witness_RotaryDependsOnTheMode : base.mode = .run ∧ selecting.mode = .sourceSelect := ⟨rfl, rfl⟩
theorem witness_ButtonEntersSourceSelect :
    (base.mode = .run ∧ 50 < 51) ∧ selecting.mode = .sourceSelect ∧ 50 ≤ 50 := by decide
theorem witness_TimeoutRevertsToRun :
    (selecting.mode = .sourceSelect ∧ selecting.btn = none ∧ ∃ t, exec (.tick 5000 none) selecting = .next t) ∧
    ∃ t, exec .timeout selecting = .next t ∧ t.mode = .run := ⟨⟨rfl, rfl, _, rfl⟩, _, rfl, rfl⟩
theorem witness_ToggleMuteOnAndOff : base.mute = false ∧ ({ base with mute := true } : State).mute = true := ⟨rfl, rfl⟩
theorem witness_BootWritesAndSends : State.reset.booted = false := rfl
theorem witness_BootLoadsOrDefaults :
    State.reset.booted = false ∧ ((-447 : Int) ≤ -447 ∧ (0 : Int) ≤ 0) ∧ ((-448 : Int) < -447 ∨ 0 < (-448 : Int)) ∧
    ((1 : Int) < -447 ∨ 0 < (1 : Int)) ∧ (1 ≤ 4 ∧ 4 ≤ 4) ∧ (0 < 1 ∨ 4 < 0) ∧ (5 < 1 ∨ 4 < 5) := by decide
theorem witness_OutputIsOnlyAppended : ∃ t, exec (.volDown) base = .next t ∧ t.out ≠ [] := ⟨_, rfl, by decide⟩
/-- One clause each: both option bits, the clock bit, the two hard-wired fields (set only in a state no run reaches), and
`BOOTED`. -/
theorem witness_WritersOfShadowsAndConfiguration :
    (∃ t, exec (.setZeroCrossing false) base = .next t ∧ t.gopt.zcRaw ≠ base.gopt.zcRaw) ∧
    (∃ t, exec (.setLinkChannels true) base = .next t ∧ t.gopt.link ≠ base.gopt.link) ∧
    (∃ t, exec (.setExternalClock true) base = .next t ∧ t.dopt.clkRaw ≠ base.dopt.clkRaw) ∧
    (∃ s t, exec (.boot none none) s = .next t ∧ t.gopt.gain ≠ s.gopt.gain ∧ t.dopt.softstepRaw ≠ s.dopt.softstepRaw ∧
      t.booted ≠ s.booted) :=
  ⟨⟨_, rfl, by decide⟩, ⟨_, rfl, by decide⟩, ⟨_, rfl, by decide⟩,
    ⟨{ State.reset with gopt := ⟨false, false, 1⟩, dopt := ⟨true, true⟩ }, _, rfl, by decide, by decide, by decide⟩⟩
/-- A mute triple, a turn in Run, and a turn at the deadline. -/
theorem witness_OnlyTheseClearMute :
    (∃ s t, exec (.tick 1 (some ⟨false, 16, 13⟩)) s = .next t ∧ s.mute = true ∧ t.mute = false) ∧
    (∃ s t, exec (.tick 1 none) s = .next t ∧ s.mode = .run ∧ s.mute = true ∧ t.mute = false) ∧
    (∃ s t, exec (.tick 5000 none) s = .next t ∧ s.mode = .sourceSelect ∧ s.mute = true ∧ t.mute = false) :=
  ⟨⟨{ base with mute := true }, _, rfl, rfl, by decide⟩, ⟨{ base with mute := true, rot := 1 }, _, rfl, rfl, rfl, by decide⟩,
    ⟨{ selecting with mute := true, rot := 1 }, _, rfl, rfl, rfl, by decide⟩⟩
theorem witness_OnlyTheseChangeTheMode :
    (∃ t, exec (.btn 51 7) base = .next t ∧ t.mode ≠ base.mode) ∧
    (∃ t, exec (.tick 5000 none) selecting = .next t ∧ t.mode ≠ selecting.mode) :=
  ⟨⟨_, rfl, by decide⟩, ⟨_, rfl, by decide⟩⟩
theorem witness_ChangesAreWrittenThrough :
    (∀ pv ps, Instr.playCd 5 ≠ .boot pv ps) ∧ (∃ t, exec (.playCd 5) base = .next t ∧ t.src ≠ base.src) ∧
    (∃ t, exec .volUp base = .next t ∧ t.vol ≠ base.vol) ∧
    ((∀ now rc, Instr.volUp ≠ .tick now rc) ∧ ∃ t, exec .volUp { base with vol := 0 } = .next t ∧ t.vol = 0) ∧
    (∃ t, exec (.selectSource .phono 5) base = .next t ∧ t.src = base.src) ∧
    (∃ t, exec (.boot none none) State.reset = .next t) :=
  ⟨fun _ _ h => (nomatch h), ⟨_, rfl, by decide⟩, ⟨_, rfl, by decide⟩, ⟨fun _ _ h => (nomatch h), _, rfl, by decide⟩,
    ⟨_, rfl, by decide⟩, ⟨_, rfl⟩⟩
theorem witness_StepRunsTheNextInput :
    ({ base with inputs := [.call .volUp] } : State).inputs = .call .volUp :: [] ∧
    decode base.cfg (.call .volUp) = .ok .volUp ∧ decode base.cfg (.bytes []) = .error .notOneFrame ∧ base.inputs = [] := by
  decide
theorem witness_TableWordRunsNext : decodeTableWord 16 0xEF90 = some (.attL (-447)) := by decide

/-- A frame at each of the two addresses. -/
theorem witness_OptionFramesCarryTheWholeShadow :
    emits (exec .setGain chip2) (tx [0x000A#16]) = true ∧
    (0x000A#16 : Word) &&& chip2.cfg.addrMask = chip2.cfg.addressPart chip2.cfg.selGain ∧
    emits (exec (.states true) chip2) (tx [0x020E#16]) = true ∧
    (0x020E#16 : Word) &&& chip2.cfg.addrMask = chip2.cfg.addressPart chip2.cfg.selStates := by decide

/-! ### The invariants hold of a core that has booted, and it can step on -/

/-- The core after `boot(some(−100), some(4))`, vector B2, with a press waiting and a tick offered. -/
def booted : State :=
  { boot (some (-100)) (some 4) State.reset with btn := some 120, inputs := [.call (.tick 1000 none)] }

theorem booted_agentsOnly : AgentsOnly booted := by
  intro x hx
  cases hx with
  | head => rfl
  | tail _ h => cases h

theorem booted_settled : Settled booted where
  volRange := by decide
  srcRange := by decide
  hardwired := by decide
  routed n := by cases n <;> decide
  attenuatedL := by decide
  attenuatedR := by decide
  storedVol x h := by
    rw [show lastPersist .volume booted.out = none from by decide] at h
    cases h
  storedSrc x h := by
    rw [show lastPersist .source booted.out = none from by decide] at h
    cases h

theorem witness_EveryStepKeepsTheCoreInvariant : CoreInv booted ∧ ∃ t, step booted = .next t ∧ t.mode = .sourceSelect :=
  ⟨⟨booted_agentsOnly, fun h => (nomatch h), fun _ => booted_settled⟩, _, rfl, by decide⟩
theorem witness_EveryStepKeepsRoutingExclusive : RoutingInv booted ∧ ∃ t, step booted = .next t :=
  ⟨⟨booted_agentsOnly, fun h => (nomatch h), fun _ => by decide⟩, _, rfl⟩
theorem witness_EveryStepKeepsFramesPaired : PairsInv booted ∧ ∃ t, step booted = .next t :=
  ⟨⟨booted_agentsOnly, by decide⟩, _, rfl⟩
theorem witness_EveryStepKeepsTheTimer :
    TimerInv { selecting with inputs := [.call (.tick 0 none)] } ∧
    ∃ t, step { selecting with inputs := [.call (.tick 0 none)] } = .next t ∧ t.mode = .sourceSelect :=
  ⟨⟨by simp [AgentsOnly, isAgentInput, Instr.isAgentStep], fun _ _ => Nat.le_refl 0⟩, _, rfl, by decide⟩
theorem witness_EveryStepKeepsTheLevelInRange : LevelInv booted ∧ ∃ t, step booted = .next t :=
  ⟨⟨by decide, by decide, rfl, rfl⟩, _, rfl⟩

end Sys2Proof.Tests
end

section
/-! PROOFS. What stands apart from the state machine (10_state.md sections 4 and 9): the two shadows, `BOOTED`, the configuration and
the offered inputs. Only the three setters and boot write any of it. -/

namespace Sys2Proof.Machine

open Sys2Proof

/-! ### The predicate -/

/-- The shadows, `BOOTED`, the configuration and the offered inputs agree in `s` and `t`. -/
structure KeepsApart (s t : State) : Prop where
  gopt : t.gopt = s.gopt
  dopt : t.dopt = s.dopt
  booted : t.booted = s.booted
  config : t.config = s.config
  inputs : t.inputs = s.inputs

theorem KeepsApart.trans {s t u : State} (h : KeepsApart s t) (g : KeepsApart t u) : KeepsApart s u where
  gopt := g.gopt.trans h.gopt
  dopt := g.dopt.trans h.dopt
  booted := g.booted.trans h.booted
  config := g.config.trans h.config
  inputs := g.inputs.trans h.inputs

theorem KeepsRest.keepsApart {s t : State} (h : KeepsRest s t) : KeepsApart s t :=
  ⟨h.gopt, h.dopt, h.booted, h.config, h.inputs⟩

/-! ### The shared operations that keep it -/

theorem emit_keepsApart (as : List Action) (s : State) : KeepsApart s (emit as s) := ⟨rfl, rfl, rfl, rfl, rfl⟩

theorem track_keepsApart (t : Bool) (s : State) : KeepsApart s (track t s) := ⟨rfl, rfl, rfl, rfl, rfl⟩

theorem dedup_keepsApart (t : Bool) (ev : Option AppEvent) (s : State) : KeepsApart s (dedup t ev s) :=
  ⟨rfl, rfl, rfl, rfl, rfl⟩

theorem timeout_keepsApart (s : State) : KeepsApart s (timeout s) := ⟨rfl, rfl, rfl, rfl, rfl⟩

theorem button_keepsApart (dur now : Nat) (s : State) : KeepsApart s (button dur now s) := by
  rw [button_spec]
  split <;> exact ⟨rfl, rfl, rfl, rfl, rfl⟩

/-! ### The phases of a tick (42_aggregator.md R151) -/

theorem phaseTimeout_keepsApart (now : Nat) (s : State) : KeepsApart s (phaseTimeout now s) := by
  rw [phaseTimeout_spec]
  split <;> exact ⟨rfl, rfl, rfl, rfl, rfl⟩

theorem phaseRemote_keepsApart (now : Nat) (rc : Option Triple) (s : State) : KeepsApart s (phaseRemote now rc s) := by
  cases rc with
  | none => exact ⟨rfl, rfl, rfl, rfl, rfl⟩
  | some r =>
    rw [phaseRemote_some]
    split
    · exact track_keepsApart r.toggle s
    · next e _ => exact (track_keepsApart r.toggle s).trans (apply_keeps e now _).keepsApart

theorem phaseRotary_keepsApart (now : Nat) (s : State) : KeepsApart s (phaseRotary now s) := by
  have hclear : KeepsApart s (clearRot s) := ⟨rfl, rfl, rfl, rfl, rfl⟩
  unfold phaseRotary
  split
  · exact hclear
  · next d _ => exact hclear.trans (rotary_keeps d now _).keepsApart

theorem phaseButton_keepsApart (now : Nat) (s : State) : KeepsApart s (phaseButton now s) := by
  have hclear : KeepsApart s (clearBtn s) := ⟨rfl, rfl, rfl, rfl, rfl⟩
  unfold phaseButton
  split
  · exact hclear
  · next dur _ => exact hclear.trans (button_keepsApart dur now _)

theorem tick_keepsApart (now : Nat) (rc : Option Triple) (s : State) : KeepsApart s (tick now rc s) :=
  (((phaseTimeout_keepsApart now s).trans (phaseRemote_keepsApart now rc _)).trans
    (phaseRotary_keepsApart now _)).trans (phaseButton_keepsApart now _)

/-! ### Every instruction -/

/-- For an arm of `exec` that always completes: what its next state keeps is kept. -/
theorem KeepsApart.of_next {s t u : State} (h : (.next u : Result) = .next t) (hu : KeepsApart s u) : KeepsApart s t := by
  cases h
  exact hu

/-- Every instruction keeps what stands apart, but for the three setters and boot, whose next states are named. -/
theorem exec_keepsApart_or_writer {i : Instr} {s t : State} (h : exec i s = .next t) :
    KeepsApart s t ∨
    (∃ b, i = .setZeroCrossing b ∧ t = setZeroCrossing b s) ∨
    (∃ b, i = .setLinkChannels b ∧ t = setLinkChannels b s) ∨
    (∃ b, i = .setExternalClock b ∧ t = setExternalClock b s) ∨
    (∃ pv ps, i = .boot pv ps ∧ t = boot pv ps s) := by
  cases i with
  | setZeroCrossing b =>
    cases h
    exact .inr (.inl ⟨b, rfl, rfl⟩)
  | setLinkChannels b =>
    cases h
    exact .inr (.inr (.inl ⟨b, rfl, rfl⟩))
  | setExternalClock b =>
    cases h
    exact .inr (.inr (.inr (.inl ⟨b, rfl, rfl⟩)))
  | boot pv ps => exact .inr (.inr (.inr (.inr ⟨pv, ps, rfl, (execBoot_next.mp h).2⟩)))
  | setVolume _ _ | mute | setGain | unmute | attL _ | attR _ | attLMute | attRMute | gain _ _ | states _ =>
    exact .inl (.of_next h (emit_keepsApart _ s))
  | rcSrc1 _ | rcSrc2 _ | rcSrc3 _ | rcSrc4 _ | rcVolUp _ | rcVolDown _ | rcMute _ | rcPlay _ | rcOther _ _ _ =>
    exact .inl (.of_next h (dedup_keepsApart _ _ s))
  | att _ | cbRot _ | cbBtn _ => exact .inl (.of_next h ⟨rfl, rfl, rfl, rfl, rfl⟩)
  | volUp | volDown => exact .inl (.of_next h (volumeStep_keeps _ s).keepsApart)
  | selectSource n now => exact .inl (.of_next h (sourceChange_keeps n now s).keepsApart)
  | toggleMute => exact .inl (.of_next h (toggleMute_keeps s).keepsApart)
  | playCd now => exact .inl (.of_next h (playCd_keeps now s).keepsApart)
  | rotUp now | rotDown now => exact .inl (.of_next h (rotary_keeps _ now s).keepsApart)
  | btn dur now => exact .inl (.of_next h (button_keepsApart dur now s))
  | timeout => exact .inl (.of_next h (timeout_keepsApart s))
  | tick now rc =>
    obtain ⟨-, -, rfl⟩ := execTick_next.mp h
    exact .inl ((tick_keepsApart now rc s).trans ⟨rfl, rfl, rfl, rfl, rfl⟩)

/-- Settles O48: an instruction that keeps what stands apart changes none of it, and the three setters and boot, which do not, have
their next states in closed form. -/
theorem writersOfShadowsAndConfiguration : Obligations.WritersOfShadowsAndConfiguration := by
  intro i s t h
  obtain hk | ⟨b, rfl, rfl⟩ | ⟨b, rfl, rfl⟩ | ⟨b, rfl, rfl⟩ | ⟨pv, ps, rfl, rfl⟩ := exec_keepsApart_or_writer h
  · simp [hk.gopt, hk.dopt, hk.booted, hk.config, hk.inputs]
  · simp [setZeroCrossing_spec]
  · simp [setLinkChannels_spec]
  · simp [setExternalClock_spec]
  · simp [boot_spec, bootRegisters]

end Sys2Proof.Machine
end

section
/-! PROOFS. The chip bus (20_memory.md section 1): the two bytes of a frame as numbers, and the bus steps of each action. -/

namespace Sys2Proof.Machine

open Sys2Proof

/-- The byte sent first is the word's upper half as a number (R51). -/
theorem highByte_toNat (w : Word) : (highByte w).toNat = w.toNat / 256 := by
  rw [highByte, BitVec.extractLsb'_toNat, Nat.shiftRight_eq_div_pow]
  have hw : w.toNat < 65536 := w.isLt
  omega

/-- The byte sent second is the word's lower half as a number (R51). -/
theorem lowByte_toNat (w : Word) : (lowByte w).toNat = w.toNat % 256 := by
  rw [lowByte, BitVec.extractLsb'_toNat, Nat.shiftRight_zero]

/-- An action that is no frame leaves the chip bus alone. -/
theorem busSteps_eq_nil_of_ne_frameTx {a : Action} (h : ∀ w, a ≠ .frameTx w) : a.busSteps = [] := by
  cases a with
  | frameTx w => exact absurd rfl (h w)
  | routeWrite _ _ | persistWrite _ _ | display _ | displayFlush => rfl

/-- Settles O7: the two bytes of a frame are the quotient and the remainder of its word by 256; no other action has a bus step. -/
theorem highByteGoesFirst : Obligations.HighByteGoesFirst :=
  ⟨fun w => ⟨highByte w, lowByte w, highByte_toNat w, lowByte_toNat w, rfl⟩, rfl,
    fun _ => busSteps_eq_nil_of_ne_frameTx⟩

end Sys2Proof.Machine
end

section
/-! PROOFS. The classification table of remote pairs (30_encoding.md R89): the seven commands of the preamplifier, the one of the
transport, and every other pair, which is `none` (R92). -/

namespace Sys2Proof

/-! ### What an admitted configuration says of the codes (R8) -/

theorem Cfg.remoteDistinct_of_wf {c : Cfg} (h : c.wf = true) :
    c.rcAddrPreamp ≠ c.rcAddrTransport ∧ c.preampCmds.Nodup := by
  have hd : c.remoteDistinct = true := by
    simp only [Cfg.wf, Bool.and_eq_true] at h
    obtain ⟨⟨-, hd⟩, -⟩ := h
    exact hd
  simpa [Cfg.remoteDistinct] using hd

/-! ### The table's rows -/

/-- The rows of the preamplifier, top to bottom: each command differs from those tested before it. -/
theorem classify_preamp_rows {c : Cfg} (h : c.preampCmds.Nodup) :
    classify c c.rcAddrPreamp c.cmdSrc1 = some (.selectSource .phono) ∧
    classify c c.rcAddrPreamp c.cmdSrc2 = some (.selectSource .media) ∧
    classify c c.rcAddrPreamp c.cmdSrc3 = some (.selectSource .cd) ∧
    classify c c.rcAddrPreamp c.cmdSrc4 = some (.selectSource .tuner) ∧
    classify c c.rcAddrPreamp c.cmdVolUp = some (.volumeStep .up) ∧
    classify c c.rcAddrPreamp c.cmdVolDown = some (.volumeStep .down) ∧
    classify c c.rcAddrPreamp c.cmdMute = some .toggleMute := by
  simp only [Cfg.preampCmds, List.nodup_cons, List.mem_cons, not_or] at h
  obtain ⟨h1, h2, h3, h4, h5, h6, -⟩ := h
  simp [classify, h1, h2, h3, h4, h5, h6, eq_comm]

theorem classify_transport {c : Cfg} (h : c.rcAddrPreamp ≠ c.rcAddrTransport) :
    classify c c.rcAddrTransport c.cmdPlay = some .playCd := by
  simp [classify, h.symm]

theorem Cfg.recognised_iff {c : Cfg} {a k : Nat} :
    c.recognised a k = true ↔
      (a = c.rcAddrPreamp ∧ k ∈ c.preampCmds) ∨ (a = c.rcAddrTransport ∧ k = c.cmdPlay) := by
  simp [Cfg.recognised]

/-- A pair in no named row classifies to `none`, in every configuration (R92). -/
theorem classify_eq_none_of_not_recognised {c : Cfg} {a k : Nat} (h : c.recognised a k = false) :
    classify c a k = none := by
  rw [← Bool.not_eq_true, Cfg.recognised_iff, not_or, not_and, not_and] at h
  obtain ⟨hpreamp, htransport⟩ := h
  unfold classify
  by_cases ha : a = c.rcAddrPreamp
  · have hk := hpreamp ha
    simp only [Cfg.preampCmds, List.mem_cons, List.not_mem_nil, or_false, not_or] at hk
    simp [ha, hk]
  · by_cases ht : a = c.rcAddrTransport
    · rw [if_neg ha, if_pos ht, if_neg (htransport ht)]
    · rw [if_neg ha, if_neg ht]

end Sys2Proof

namespace Sys2Proof.Machine

open Sys2Proof

/-- The continuous class is that of the volume steps (R136). -/
theorem continuous_iff {e : AppEvent} : continuous e = true ↔ ∃ d, e = .volumeStep d := by
  cases e with
  | volumeStep d => simp [continuous]
  | selectSource _ | toggleMute | playCd => simp [continuous]

/-- Settles O4: the named rows by the distinctness of the codes (R8); a pair outside them is not recognised. -/
theorem remoteTableClassifies : Obligations.RemoteTableClassifies := by
  intro a
  obtain ⟨haddr, hcmds⟩ := Cfg.remoteDistinct_of_wf a.admitted
  obtain ⟨h1, h2, h3, h4, hup, hdown, hmute⟩ := classify_preamp_rows hcmds
  refine ⟨h1, h2, h3, h4, hup, hdown, hmute, classify_transport haddr, fun _ => continuous_iff, ?_⟩
  intro adr cmd hpreamp htransport
  apply classify_eq_none_of_not_recognised
  rw [← Bool.not_eq_true, Cfg.recognised_iff, not_or]
  exact ⟨by simpa [Cfg.preampCmds] using hpreamp, htransport⟩

end Sys2Proof.Machine
end

section
/-! PROOFS. The six frame rows (30_encoding.md section 2): the frame each sends, and when it is the row's encoded word. The two
option rows are `exec_gain` and `exec_states`. -/

namespace Sys2Proof.Machine

open Sys2Proof

/-! ### The attenuation rows (R83, R86) -/

theorem exec_attL (v : Int) (s : State) :
    exec (.attL v) s = .next (emit [.frameTx (frame s.cfg s.cfg.selAttL (att v))] s) := rfl

theorem exec_attR (v : Int) (s : State) :
    exec (.attR v) s = .next (emit [.frameTx (frame s.cfg s.cfg.selAttR (att v))] s) := rfl

theorem exec_attLMute (s : State) :
    exec .attLMute s = .next (emit [.frameTx (frame s.cfg s.cfg.selAttL 0)] s) := rfl

theorem exec_attRMute (s : State) :
    exec .attRMute s = .next (emit [.frameTx (frame s.cfg s.cfg.selAttR 0)] s) := rfl

/-! ### The encoded word -/

/-- A row with an encoded word sends that word; the two option rows when the shadow holds the word's bits (R84, R85, R118). -/
theorem exec_of_encodeWord {i : Instr} {s : State} {w : Word} (h : encodeWord s.cfg i = some w)
    (hgain : ∀ zcRaw link, i = .gain zcRaw link → s.gopt = ⟨zcRaw, link, 0⟩)
    (hstates : ∀ clkRaw, i = .states clkRaw → s.dopt = ⟨clkRaw, false⟩) :
    exec i s = .next (emit [.frameTx w] s) := by
  cases i with
  | attL v => exact Option.some.inj h ▸ exec_attL v s
  | attR v => exact Option.some.inj h ▸ exec_attR v s
  | attLMute => exact Option.some.inj h ▸ exec_attLMute s
  | attRMute => exact Option.some.inj h ▸ exec_attRMute s
  | gain zcRaw link =>
    cases h
    rw [exec_gain, packGain, hgain zcRaw link rfl]
  | states clkRaw =>
    cases h
    rw [exec_states, packDev, hstates clkRaw rfl]
  | _ => cases h

/-- Settles O20: each row is one `emit`; the hard-mute frame is the bare address part. -/
theorem eachFrameRowSendsItsWord : Obligations.EachFrameRowSendsItsWord := by
  refine ⟨fun s v zcRaw link clkRaw => ⟨exec_attL v s, exec_attR v s, ?_, ?_, exec_gain zcRaw link s,
    exec_states clkRaw s⟩, fun i s w h hgain hstates => exec_of_encodeWord h hgain hstates⟩
  · rw [exec_attLMute, frame_zero]
    rfl
  · rw [exec_attRMute, frame_zero]
    rfl

end Sys2Proof.Machine
end

section
/-! PROOFS. What admission (00_scope.md R7) says of whole words: the data the encoder can build is clear of the address field, so the
address field of a frame is the address part of its register, and the four address parts differ. -/

namespace Sys2Proof

/-! ### Address parts -/

theorem Cfg.addressPart_and_addrMask {c : Cfg} {sel : Word} (hsel : sel ∈ c.selects) :
    c.addressPart sel &&& c.addrMask = c.addressPart sel := by
  apply BitVec.eq_of_getLsbD_eq
  intro i _
  rw [BitVec.getLsbD_and]
  cases h : (c.addressPart sel).getLsbD i with
  | false => rfl
  | true => rw [c.addressPart_in_addrMask hsel i h, Bool.and_self]

/-- The address field of a frame names the register it is sent to (R81, R82). -/
theorem frame_and_addrMask {c : Cfg} {sel data : Word} (hsel : sel ∈ c.selects) (hdata : data &&& c.addrMask = 0) :
    frame c sel data &&& c.addrMask = c.addressPart sel := by
  rw [frame_eq, BitVec.and_or_distrib_right, hdata, Cfg.addressPart_and_addrMask hsel]
  exact BitVec.zero_or

theorem Cfg.Placed.select_clear_of_chip {c : Cfg} (p : c.Placed) {sel : Word} (hsel : sel ∈ c.selects) :
    sel &&& c.chipBits = 0 := by
  rw [and_eq_zero_iff_bits]
  intro i hi
  by_contra h
  obtain ⟨hs, hc⟩ := Bool.and_eq_true_iff.mp (Bool.eq_true_of_not_eq_false h)
  have hclear := and_eq_zero_iff_bits.mp p.clear i hi
  rw [c.select_in_selMask hsel i hs, c.chip_in_caMask c.ca i hc] at hclear
  cases hclear

/-- An address part without the chip address is the select code. -/
theorem Cfg.Placed.addressPart_and_not_chipBits {c : Cfg} (p : c.Placed) {sel : Word} (hsel : sel ∈ c.selects) :
    c.addressPart sel &&& ~~~c.chipBits = sel := by
  apply BitVec.eq_of_getLsbD_eq
  intro i hi
  have hclear := and_eq_zero_iff_bits.mp (p.select_clear_of_chip hsel) i hi
  rw [Cfg.addressPart, BitVec.getLsbD_and, BitVec.getLsbD_or, BitVec.getLsbD_not]
  cases hs : sel.getLsbD i <;> cases hc : c.chipBits.getLsbD i <;> simp_all

theorem Cfg.Placed.addressPart_inj {c : Cfg} (p : c.Placed) {x y : Word} (hx : x ∈ c.selects) (hy : y ∈ c.selects)
    (h : c.addressPart x = c.addressPart y) : x = y := by
  rw [← p.addressPart_and_not_chipBits hx, h, p.addressPart_and_not_chipBits hy]

/-- The four registers of a chip have four addresses (R55). -/
theorem Cfg.Placed.addressParts_nodup {c : Cfg} (p : c.Placed) :
    [c.addressPart c.selAttL, c.addressPart c.selAttR, c.addressPart c.selGain, c.addressPart c.selStates].Nodup :=
  p.distinct.map_on fun _ hx _ hy h => p.addressPart_inj hx hy h

/-! ### Data -/

theorem Cfg.Placed.att_clear {c : Cfg} (p : c.Placed) (v : Int) : att v &&& c.addrMask = 0 := by
  rw [and_eq_zero_iff_bits]
  intro i _
  cases h : c.addrMask.getLsbD i with
  | false => exact Bool.and_false _
  | true => rw [att_low_bits v i (p.mask_low i h), Bool.false_and]

/-- An option bit at a data position is clear of the address field. -/
theorem Cfg.rawBit_clear {c : Cfg} {n : Nat} (hn : c.dataBit n = true) (b : Bool) :
    (rawBit b <<< n) &&& c.addrMask = 0 := by
  rw [and_eq_zero_iff_bits]
  intro i hi
  rw [rawBit_getLsbD b n i hi]
  by_cases h : i = n
  · rw [h, (Cfg.dataBit_iff hn).2, Bool.and_false]
  · simp [h]

/-- The gain field is clear of the address field, whatever it holds. -/
theorem Cfg.Placed.gainField_clear {c : Cfg} (p : c.Placed) (g : BitVec 6) :
    (g.setWidth 16 <<< c.gainLsb) &&& c.addrMask = 0 := by
  have hg : g.setWidth 16 &&& 0x3F#16 = g.setWidth 16 := by
    apply BitVec.eq_of_toNat_eq
    have hlt : (g.setWidth 16).toNat < 2 ^ 6 := by
      have := g.isLt
      simp
      omega
    exact Nat.and_two_pow_sub_one_of_lt_two_pow hlt
  rw [← hg, BitVec.shiftLeft_and_distrib, BitVec.and_assoc, p.gainField]
  exact BitVec.and_zero

theorem Cfg.Placed.packGainBits_clear {c : Cfg} (p : c.Placed) (zcRaw link : Bool) (g : BitVec 6) :
    packGainBits c zcRaw link g &&& c.addrMask = 0 := by
  rw [packGainBits, BitVec.and_or_distrib_right, BitVec.and_or_distrib_right, Cfg.rawBit_clear p.zcBit,
    Cfg.rawBit_clear p.linkBit, p.gainField_clear]
  rfl

theorem Cfg.Placed.packDevBits_clear {c : Cfg} (p : c.Placed) (clkRaw softstepRaw : Bool) :
    packDevBits c clkRaw softstepRaw &&& c.addrMask = 0 := by
  rw [packDevBits, BitVec.and_or_distrib_right, Cfg.rawBit_clear p.clkBit, Cfg.rawBit_clear p.softstepBit]
  rfl

end Sys2Proof
end

section
/-! PROOFS. The whole shadow in every option frame (40_encoder.md R118, R241). What is sent besides the two option registers goes
to the attenuation registers; what is sent to an option register is its shadow as it then stands. -/

namespace Sys2Proof.Machine

open Sys2Proof

/-! ### Lists of actions -/

/-- No frame among the actions is addressed to an option register. -/
def NoOptionFrame (c : Cfg) (as : List Action) : Prop :=
  ∀ w, .frameTx w ∈ as →
    w &&& c.addrMask ≠ c.addressPart c.selGain ∧ w &&& c.addrMask ≠ c.addressPart c.selStates

theorem noOptionFrame_nil (c : Cfg) : NoOptionFrame c [] := fun _ h => nomatch h

theorem NoOptionFrame.append {c : Cfg} {as bs : List Action} (ha : NoOptionFrame c as) (hb : NoOptionFrame c bs) :
    NoOptionFrame c (as ++ bs) :=
  fun w h => (List.mem_append.mp h).elim (ha w) (hb w)

theorem noOptionFrame_of_no_frame (c : Cfg) {as : List Action} (h : ∀ w, .frameTx w ∉ as) : NoOptionFrame c as :=
  fun w hw => absurd hw (h w)

theorem noOptionFrame_ite {c : Cfg} (q : Prop) [Decidable q] {as bs : List Action} (ha : NoOptionFrame c as)
    (hb : NoOptionFrame c bs) : NoOptionFrame c (if q then as else bs) := by
  split
  · exact ha
  · exact hb

/-- A frame of clear data to an attenuation register. -/
theorem noOptionFrame_att {c : Cfg} (p : c.Placed) {sel data : Word} (hsel : sel = c.selAttL ∨ sel = c.selAttR)
    (hdata : data &&& c.addrMask = 0) : NoOptionFrame c [.frameTx (frame c sel data)] := by
  intro w hw
  cases List.mem_singleton.mp hw
  have hmem : sel ∈ c.selects := by rcases hsel with rfl | rfl <;> simp [Cfg.selects]
  rw [frame_and_addrMask hmem hdata]
  have hne := p.addressParts_nodup
  rcases hsel with rfl | rfl <;> simp_all

theorem noOptionFrame_attPair {c : Cfg} (p : c.Placed) {l r : Word} (hl : l &&& c.addrMask = 0)
    (hr : r &&& c.addrMask = 0) : NoOptionFrame c (attPair c l r) :=
  (noOptionFrame_att p (.inl rfl) hl).append (noOptionFrame_att p (.inr rfl) hr)

theorem noOptionFrame_hardMute {c : Cfg} (p : c.Placed) : NoOptionFrame c (attPair c 0 0) :=
  noOptionFrame_attPair p BitVec.zero_and BitVec.zero_and

theorem noOptionFrame_levels {c : Cfg} (p : c.Placed) (l r : Int) : NoOptionFrame c (attPair c (att l) (att r)) :=
  noOptionFrame_attPair p (p.att_clear l) (p.att_clear r)

theorem noOptionFrame_unmuteActions {c : Cfg} (p : c.Placed) (v : Int) : NoOptionFrame c (unmuteActions c v) :=
  (noOptionFrame_levels p v v).append (noOptionFrame_of_no_frame c (by simp))

theorem noOptionFrame_volumeActions {c : Cfg} (p : c.Placed) (v : Int) : NoOptionFrame c (volumeActions c v) :=
  (noOptionFrame_levels p v v).append (noOptionFrame_of_no_frame c (by simp))

theorem noOptionFrame_sourceActions {c : Cfg} (p : c.Placed) (old new : Source) (muted : Bool) :
    NoOptionFrame c (sourceActions c old new muted) := by
  have hfree {as : List Action} (h : ∀ w, .frameTx w ∉ as) := noOptionFrame_of_no_frame c h
  exact ((((hfree (by simp)).append (noOptionFrame_ite _ (noOptionFrame_hardMute p) (noOptionFrame_nil c))).append
    (hfree (by simp))).append (noOptionFrame_ite _ (hfree (by simp)) (noOptionFrame_nil c))).append (hfree (by simp))

/-! ### What sends no option frame -/

/-- `t` differs from `s` in `OUT` by appended actions, no frame to an option register among them. -/
structure SendsNoOption (s t : State) : Prop where
  config : t.config = s.config
  appended : ∃ as, t.out = s.out ++ as ∧ NoOptionFrame s.cfg as

theorem SendsNoOption.trans {s t u : State} (h : SendsNoOption s t) (g : SendsNoOption t u) : SendsNoOption s u := by
  obtain ⟨hc, as, ha, hnone⟩ := h
  obtain ⟨gc, bs, hb, gnone⟩ := g
  have hcfg : t.cfg = s.cfg := congrArg AdmittedCfg.cfg hc
  refine ⟨gc.trans hc, as ++ bs, by rw [hb, ha, List.append_assoc], hnone.append ?_⟩
  rwa [hcfg] at gnone

/-- An update that leaves `OUT` alone. -/
theorem SendsNoOption.of_silent {s t : State} (hconfig : t.config = s.config) (hout : t.out = s.out) : SendsNoOption s t :=
  ⟨hconfig, [], by rw [hout, List.append_nil], noOptionFrame_nil s.cfg⟩

theorem State.placed (s : State) : s.cfg.Placed := Cfg.placed_of_wf s.config.admitted

theorem emit_sendsNoOption {as : List Action} {s : State} (h : NoOptionFrame s.cfg as) : SendsNoOption s (emit as s) :=
  ⟨rfl, as, rfl, h⟩

theorem setVolume_sendsNoOption (l r : Int) (s : State) : SendsNoOption s (setVolume l r s) :=
  emit_sendsNoOption (noOptionFrame_levels s.placed l r)

theorem hardMute_sendsNoOption (s : State) : SendsNoOption s (hardMute s) :=
  emit_sendsNoOption (noOptionFrame_hardMute s.placed)

theorem volumeStep_sendsNoOption (d : Dir) (s : State) : SendsNoOption s (volumeStep d s) := by
  rw [volumeStep_spec]
  exact ⟨rfl, _, rfl, .append
    (noOptionFrame_ite _ (noOptionFrame_unmuteActions s.placed _) (noOptionFrame_nil _))
    (noOptionFrame_ite _ (noOptionFrame_nil _) (noOptionFrame_volumeActions s.placed _))⟩

theorem sourceChange_sendsNoOption (n : Source) (now : Nat) (s : State) : SendsNoOption s (sourceChange n now s) := by
  rw [sourceChange_spec]
  exact ⟨rfl, _, rfl, noOptionFrame_ite _ (noOptionFrame_nil _) (noOptionFrame_sourceActions s.placed _ _ _)⟩

theorem unmute_sendsNoOption (s : State) : SendsNoOption s (unmute s) := by
  rw [unmute_spec]
  exact ⟨rfl, _, rfl, noOptionFrame_unmuteActions s.placed _⟩

theorem toggleMute_sendsNoOption (s : State) : SendsNoOption s (toggleMute s) := by
  rw [toggleMute_spec]
  split
  · exact unmute_sendsNoOption s
  · exact ⟨rfl, _, rfl, (noOptionFrame_hardMute s.placed).append (noOptionFrame_of_no_frame _ (by simp))⟩

theorem playCd_sendsNoOption (now : Nat) (s : State) : SendsNoOption s (playCd now s) := by
  unfold playCd
  have hsource := sourceChange_sendsNoOption .cd now s
  dsimp only
  split
  · exact hsource.trans (unmute_sendsNoOption _)
  · exact hsource

theorem apply_sendsNoOption (e : AppEvent) (now : Nat) (s : State) : SendsNoOption s (Machine.apply e now s) := by
  cases e with
  | selectSource n => exact sourceChange_sendsNoOption n now s
  | volumeStep d => exact volumeStep_sendsNoOption d s
  | toggleMute => exact toggleMute_sendsNoOption s
  | playCd => exact playCd_sendsNoOption now s

theorem rotary_sendsNoOption (d : Dir) (now : Nat) (s : State) : SendsNoOption s (rotary d now s) := by
  unfold rotary
  split
  · exact volumeStep_sendsNoOption d s
  · exact sourceChange_sendsNoOption _ now s

theorem button_sendsNoOption (dur now : Nat) (s : State) : SendsNoOption s (button dur now s) := by
  rw [button_spec]
  split <;> exact .of_silent rfl rfl

/-! ### The phases of a tick (42_aggregator.md R151) -/

theorem phaseTimeout_sendsNoOption (now : Nat) (s : State) : SendsNoOption s (phaseTimeout now s) := by
  rw [phaseTimeout_spec]
  split <;> exact .of_silent rfl rfl

theorem phaseRemote_sendsNoOption (now : Nat) (rc : Option Triple) (s : State) :
    SendsNoOption s (phaseRemote now rc s) := by
  cases rc with
  | none => exact .of_silent rfl rfl
  | some r =>
    have htrack : SendsNoOption s (track r.toggle s) := .of_silent rfl rfl
    rw [phaseRemote_some]
    split
    · exact htrack
    · next e _ => exact htrack.trans (apply_sendsNoOption e now _)

theorem phaseRotary_sendsNoOption (now : Nat) (s : State) : SendsNoOption s (phaseRotary now s) := by
  have hclear : SendsNoOption s (clearRot s) := .of_silent rfl rfl
  unfold phaseRotary
  split
  · exact hclear
  · next d _ => exact hclear.trans (rotary_sendsNoOption d now _)

theorem phaseButton_sendsNoOption (now : Nat) (s : State) : SendsNoOption s (phaseButton now s) := by
  have hclear : SendsNoOption s (clearBtn s) := .of_silent rfl rfl
  unfold phaseButton
  split
  · exact hclear
  · next dur _ => exact hclear.trans (button_sendsNoOption dur now _)

theorem tick_sendsNoOption (now : Nat) (rc : Option Triple) (s : State) : SendsNoOption s (tick now rc s) :=
  (((phaseTimeout_sendsNoOption now s).trans (phaseRemote_sendsNoOption now rc _)).trans
    (phaseRotary_sendsNoOption now _)).trans (phaseButton_sendsNoOption now _)

/-! ### Frames of a whole shadow -/

/-- A word addressed to an option register is the frame of that register's whole shadow. -/
structure CarriesShadow (c : Cfg) (g : GainOpts) (d : DevOpts) (w : Word) : Prop where
  gain : w &&& c.addrMask = c.addressPart c.selGain → w = frame c c.selGain (packGain c g)
  states : w &&& c.addrMask = c.addressPart c.selStates → w = frame c c.selStates (packDev c d)

theorem packGain_clear {c : Cfg} (p : c.Placed) (g : GainOpts) : packGain c g &&& c.addrMask = 0 :=
  p.packGainBits_clear g.zcRaw g.link g.gain

theorem packDev_clear {c : Cfg} (p : c.Placed) (d : DevOpts) : packDev c d &&& c.addrMask = 0 :=
  p.packDevBits_clear d.clkRaw d.softstepRaw

theorem carriesShadow_gainFrame {c : Cfg} (p : c.Placed) (g : GainOpts) (d : DevOpts) :
    CarriesShadow c g d (frame c c.selGain (packGain c g)) := by
  refine ⟨fun _ => rfl, fun h => ?_⟩
  have hne := p.addressParts_nodup
  rw [frame_and_addrMask (by simp [Cfg.selects]) (packGain_clear p g)] at h
  simp [h] at hne

theorem carriesShadow_statesFrame {c : Cfg} (p : c.Placed) (g : GainOpts) (d : DevOpts) :
    CarriesShadow c g d (frame c c.selStates (packDev c d)) := by
  refine ⟨fun h => ?_, fun _ => rfl⟩
  have hne := p.addressParts_nodup
  rw [frame_and_addrMask (by simp [Cfg.selects]) (packDev_clear p d)] at h
  simp [h] at hne

/-- A frame to neither option register says nothing of the shadows. -/
theorem NoOptionFrame.carriesShadow {c : Cfg} {as : List Action} (h : NoOptionFrame c as) (g : GainOpts) (d : DevOpts)
    {w : Word} (hw : .frameTx w ∈ as) : CarriesShadow c g d w :=
  ⟨fun hg => absurd hg (h w hw).1, fun hs => absurd hs (h w hw).2⟩

/-! ### Every instruction -/

/-- `t` differs from `s` in `OUT` by appended actions whose option frames carry the shadows as they stand in `t`. -/
def SendsWholeShadow (s t : State) : Prop :=
  ∃ as, t.out = s.out ++ as ∧ ∀ w, .frameTx w ∈ as → CarriesShadow s.cfg t.gopt t.dopt w

theorem SendsNoOption.sendsWholeShadow {s t : State} (h : SendsNoOption s t) : SendsWholeShadow s t := by
  obtain ⟨-, as, hout, hnone⟩ := h
  exact ⟨as, hout, fun _ hw => hnone.carriesShadow _ _ hw⟩

/-- One frame that carries its shadow, after a store that leaves `OUT` and the configuration alone. -/
theorem emit_sendsWholeShadow {s u : State} {w : Word} (hout : u.out = s.out)
    (hw : CarriesShadow s.cfg u.gopt u.dopt w) : SendsWholeShadow s (emit [.frameTx w] u) := by
  refine ⟨[.frameTx w], by rw [emit_out, hout], fun x hx => ?_⟩
  cases List.mem_singleton.mp hx
  exact hw

/-- Boot sends the two option frames of the shadows it writes, the attenuation pair of its level, and no other frame (R233). -/
theorem boot_sendsWholeShadow (pv : Option Int) (ps : Option Nat) (s : State) : SendsWholeShadow s (boot pv ps s) := by
  have p := s.placed
  have hpair := noOptionFrame_levels p (bootVol pv) (bootVol pv)
  rw [boot_spec]
  refine ⟨_, by rw [List.append_assoc, List.append_assoc], fun w hw => ?_⟩
  simp only [List.mem_append, List.mem_cons, List.not_mem_nil, or_false, Action.frameTx.injEq, reduceCtorEq] at hw
  obtain (rfl | rfl) | hw := hw
  · exact carriesShadow_statesFrame p _ _
  · exact carriesShadow_gainFrame p _ _
  · exact hpair.carriesShadow _ _ hw

theorem exec_sendsWholeShadow {i : Instr} {s t : State} (h : exec i s = .next t) : SendsWholeShadow s t := by
  have p := s.placed
  cases i with
  | setGain | gain _ _ | setZeroCrossing _ | setLinkChannels _ =>
    cases h
    exact emit_sendsWholeShadow rfl (carriesShadow_gainFrame p _ _)
  | setExternalClock _ | states _ =>
    cases h
    exact emit_sendsWholeShadow rfl (carriesShadow_statesFrame p _ _)
  | boot pv ps =>
    obtain ⟨-, rfl⟩ := execBoot_next.mp h
    exact boot_sendsWholeShadow pv ps s
  | tick now rc =>
    obtain ⟨-, -, rfl⟩ := execTick_next.mp h
    exact ((tick_sendsNoOption now rc s).trans (.of_silent rfl rfl)).sendsWholeShadow
  | setVolume _ _ | unmute => cases h; exact (setVolume_sendsNoOption _ _ s).sendsWholeShadow
  | mute => cases h; exact (hardMute_sendsNoOption s).sendsWholeShadow
  | attL v => cases h; exact (emit_sendsNoOption (noOptionFrame_att p (.inl rfl) (p.att_clear v))).sendsWholeShadow
  | attR v => cases h; exact (emit_sendsNoOption (noOptionFrame_att p (.inr rfl) (p.att_clear v))).sendsWholeShadow
  | attLMute => cases h; exact (emit_sendsNoOption (noOptionFrame_att p (.inl rfl) BitVec.zero_and)).sendsWholeShadow
  | attRMute => cases h; exact (emit_sendsNoOption (noOptionFrame_att p (.inr rfl) BitVec.zero_and)).sendsWholeShadow
  | att _ | cbRot _ | cbBtn _ | timeout
  | rcSrc1 _ | rcSrc2 _ | rcSrc3 _ | rcSrc4 _ | rcVolUp _ | rcVolDown _ | rcMute _ | rcPlay _ | rcOther _ _ _ =>
    cases h
    exact (SendsNoOption.of_silent rfl rfl).sendsWholeShadow
  | volUp | volDown => cases h; exact (volumeStep_sendsNoOption _ s).sendsWholeShadow
  | selectSource n now => cases h; exact (sourceChange_sendsNoOption n now s).sendsWholeShadow
  | toggleMute => cases h; exact (toggleMute_sendsNoOption s).sendsWholeShadow
  | playCd now => cases h; exact (playCd_sendsNoOption now s).sendsWholeShadow
  | rotUp now | rotDown now => cases h; exact (rotary_sendsNoOption _ now s).sendsWholeShadow
  | btn dur now => cases h; exact (button_sendsNoOption dur now s).sendsWholeShadow

/-! ### The setters (R114 to R116) -/

theorem exec_setExternalClock (b : Bool) (s : State) :
    exec (.setExternalClock b) s = .next { s with
      dopt := ⟨!b, s.dopt.softstepRaw⟩
      out := s.out ++ [.frameTx (frame s.cfg s.cfg.selStates (packDev s.cfg ⟨!b, s.dopt.softstepRaw⟩))] } := rfl

theorem exec_setZeroCrossing (b : Bool) (s : State) :
    exec (.setZeroCrossing b) s = .next { s with
      gopt := ⟨!b, s.gopt.link, s.gopt.gain⟩
      out := s.out ++ [.frameTx (frame s.cfg s.cfg.selGain (packGain s.cfg ⟨!b, s.gopt.link, s.gopt.gain⟩))] } := rfl

theorem exec_setLinkChannels (b : Bool) (s : State) :
    exec (.setLinkChannels b) s = .next { s with
      gopt := ⟨s.gopt.zcRaw, b, s.gopt.gain⟩
      out := s.out ++ [.frameTx (frame s.cfg s.cfg.selGain (packGain s.cfg ⟨s.gopt.zcRaw, b, s.gopt.gain⟩))] } := rfl

/-- Settles O60: an option frame is sent by one operation for each register, from the shadow as it stands, and every other frame goes
to an attenuation register, whose address differs; the setters in closed form. -/
theorem optionFramesCarryTheWholeShadow : Obligations.OptionFramesCarryTheWholeShadow := by
  refine ⟨fun i s t h => ?_, fun b s =>
    ⟨⟨_, exec_setZeroCrossing b s⟩, ⟨_, exec_setLinkChannels b s⟩, ⟨_, exec_setExternalClock b s⟩⟩⟩
  obtain ⟨as, hout, hw⟩ := exec_sendsWholeShadow h
  exact ⟨as, hout, fun w hmem => (hw w hmem).gain, fun w hmem => (hw w hmem).states⟩

end Sys2Proof.Machine
end

section
/-! PROOFS. The operations of the register encoder (40_encoder.md sections 2 and 3): the attenuation value as a number, and what each
operation sends and stores. The setters are with the option frames. -/

namespace Sys2Proof.Machine

open Sys2Proof

/-! ### The attenuation value (R110) -/

theorem att_toNat_eq_emod (v : Int) : ((att v).toNat : Int) = (4096 + (-v * 128)) % 65536 := by
  simp [att]
  omega

/-- In the domain the `mod` removes nothing. -/
theorem att_toNat_of_mem {v : Int} (hlow : -447 ≤ v) (hhigh : v ≤ 0) : ((att v).toNat : Int) = 4096 - 128 * v := by
  rw [att_toNat v hlow hhigh]
  omega

theorem att_strictAnti {u v : Int} (hlow : -447 ≤ u) (huv : u < v) (hhigh : v ≤ 0) : (att v).toNat < (att u).toNat := by
  have hu := att_toNat_of_mem hlow (by omega)
  have hv := att_toNat_of_mem (by omega) hhigh
  omega

theorem att_inj {u v : Int} (hu : -447 ≤ u ∧ u ≤ 0) (hv : -447 ≤ v ∧ v ≤ 0) (h : att u = att v) : u = v := by
  have hu' := att_toNat_of_mem hu.1 hu.2
  have hv' := att_toNat_of_mem hv.1 hv.2
  rw [h] at hu'
  omega

/-- Settles O8: the value as a number, which the domain keeps below 65536. -/
theorem attenuationFormula : Obligations.AttenuationFormula :=
  ⟨att_toNat_eq_emod, fun _ => att_toNat_of_mem, fun _ _ => att_strictAnti,
    fun _ _ hu hu' hv hv' => att_inj ⟨hu, hu'⟩ ⟨hv, hv'⟩, by decide, by decide, by decide⟩

/-! ### The operations -/

theorem exec_setVolume (l r : Int) (s : State) :
    exec (.setVolume l r) s = .next (emit (attPair s.cfg (att l) (att r)) s) := rfl

theorem exec_mute (s : State) : exec .mute s = .next (emit (attPair s.cfg 0 0) s) := rfl

theorem exec_setGain (s : State) :
    exec .setGain s = .next (emit [.frameTx (frame s.cfg s.cfg.selGain (packGain s.cfg s.gopt))] s) := rfl

/-- `unmute()` has no meaning of its own (R117). -/
theorem exec_unmute (s : State) : exec .unmute s = exec (.setVolume s.vol s.vol) s := rfl

/-- Settles O11: the pair is one `emit`. -/
theorem setVolumeSendsTheTwoLevels : Obligations.SetVolumeSendsTheTwoLevels := exec_setVolume

/-- Settles O13: the frame is one `emit`. -/
theorem setGainSendsTheWholeShadow : Obligations.SetGainSendsTheWholeShadow := exec_setGain

/-- Settles O14: the store of the clock bit, then the frame of the new shadow. -/
theorem setExternalClockStoresAndSends : Obligations.SetExternalClockStoresAndSends :=
  fun b s => ⟨⟨!b, s.dopt.softstepRaw⟩, rfl, rfl, exec_setExternalClock b s⟩

/-- Settles O15: the store of the zero-crossing bit, then the frame of the new shadow. -/
theorem setZeroCrossingStoresAndSends : Obligations.SetZeroCrossingStoresAndSends :=
  fun b s => ⟨⟨!b, s.gopt.link, s.gopt.gain⟩, rfl, rfl, rfl, exec_setZeroCrossing b s⟩

/-- Settles O17: `unmute()` is `setVolume` of the level, and `mute()` leaves the level alone. -/
theorem unmuteResendsTheLevel : Obligations.UnmuteResendsTheLevel := by
  intro s
  have hmuted : (emit (attPair s.cfg 0 0) s).vol = s.vol := emit_vol _ s
  refine ⟨exec_unmute s, (exec_unmute s).trans (exec_setVolume s.vol s.vol s), _, exec_mute s, hmuted, ?_⟩
  rw [exec_unmute, hmuted]

end Sys2Proof.Machine
end

section
/-! PROOFS. The deduplicator (41_remote_dedup.md): the toggle tracker, which every received triple moves and nothing else in a tick
touches, and the two classes of event by what their return depends on. -/

namespace Sys2Proof.Machine

open Sys2Proof

/-! ### The tracker (R134) -/

@[simp] theorem dedup_tgl (t : Bool) (ev : Option AppEvent) (s : State) : (dedup t ev s).tgl = some t := rfl

/-- Each remote row runs the deduplicator with its own toggle bit (R133, R140 to R148). -/
theorem exec_remoteRow {t : Bool} {a k : Nat} {i : Instr} (s : State)
    (h : i ∈ [.rcSrc1 t, .rcSrc2 t, .rcSrc3 t, .rcSrc4 t, .rcVolUp t, .rcVolDown t, .rcMute t, .rcPlay t, .rcOther t a k]) :
    ∃ ev, exec i s = .next (dedup t ev s) := by
  simp only [List.mem_cons, List.not_mem_nil, or_false] at h
  obtain rfl | rfl | rfl | rfl | rfl | rfl | rfl | rfl | rfl := h <;> exact ⟨_, rfl⟩

/-- Whether the event is returned or suppressed, the remote phase moves the tracker; applying the event leaves it alone. -/
theorem phaseRemote_some_tgl (now : Nat) (r : Triple) (s : State) : (phaseRemote now (some r) s).tgl = some r.toggle := by
  rw [phaseRemote_some]
  split
  · exact track_tgl r.toggle s
  · next e _ => exact (apply_keeps e now (track r.toggle s)).tgl

theorem phaseRotary_tgl (now : Nat) (s : State) : (phaseRotary now s).tgl = s.tgl := by
  unfold phaseRotary
  split
  · rfl
  · next d _ => exact (rotary_keeps d now (clearRot s)).tgl

theorem button_tgl (dur now : Nat) (s : State) : (button dur now s).tgl = s.tgl := by
  rw [button_spec]
  split <;> rfl

theorem phaseButton_tgl (now : Nat) (s : State) : (phaseButton now s).tgl = s.tgl := by
  unfold phaseButton
  split
  · rfl
  · next dur _ => exact button_tgl dur now (clearBtn s)

theorem tick_some_tgl (now : Nat) (r : Triple) (s : State) : (tick now (some r) s).tgl = some r.toggle := by
  rw [tick, phaseButton_tgl, phaseRotary_tgl, phaseRemote_some_tgl]

/-- Settles O21: a remote row is the deduplicator, which moves the tracker; in a tick the remote phase does, and the rotary and button
phases after it leave the tracker alone. -/
theorem everyTripleMovesTheTracker : Obligations.EveryTripleMovesTheTracker := by
  refine ⟨fun t a k s i hi => ?_, fun now r s u h => ?_⟩
  · obtain ⟨ev, hexec⟩ := exec_remoteRow s hi
    exact ⟨_, hexec, dedup_tgl t ev s⟩
  · obtain ⟨-, -, rfl⟩ := execTick_next.mp h
    exact tick_some_tgl now r s

/-! ### The two classes of event (R135, R136) -/

/-- A one-shot event is returned unless the toggle bit is the one last seen. -/
theorem dedupEvent_oneShot {e : AppEvent} (h : ∀ d, e ≠ .volumeStep d) (t : Bool) (s : State) :
    dedupEvent t (some e) s = if s.tgl = some t then none else some e := by
  have hcont : ¬ continuous e = true := fun hc =>
    have ⟨d, hd⟩ := continuous_iff.mp hc
    h d hd
  simp [dedupEvent_some, hcont]

/-- A volume step is returned whatever the tracker holds. -/
theorem dedupEvent_volumeStep (d : Dir) (t : Bool) (s : State) :
    dedupEvent t (some (.volumeStep d)) s = some (.volumeStep d) := by
  rw [dedupEvent_some, if_pos (.inl (continuous_iff.mpr ⟨d, rfl⟩))]

/-- Settles O22: after the first of two identical triples the tracker holds their toggle bit, so a one-shot event is suppressed; a
volume step does not look at the tracker. -/
theorem oneShotNeedsANewToggle : Obligations.OneShotNeedsANewToggle := by
  refine ⟨fun e t u s he hu => ⟨?_, ?_⟩,
    fun d t s => ⟨dedupEvent_volumeStep d t s, dedupEvent_volumeStep d t (track t s)⟩⟩
  · simp [dedupEvent_oneShot he, hu, eq_comm]
  · simp [dedupEvent_oneShot he]

end Sys2Proof.Machine
end

section
/-! PROOFS. The two cells (42_aggregator.md R155 to R159): each callback writes its own, boot leaves both, a tick empties both. -/

namespace Sys2Proof.Machine

open Sys2Proof

/-! ### The callbacks (R156, R157) and boot (R232) -/

theorem exec_cbRot (d : Int) (s : State) : exec (.cbRot d) s = .next { s with rot := s.rot + d } := rfl

theorem exec_cbBtn (dur : Nat) (s : State) : exec (.cbBtn dur) s = .next { s with btn := some dur } := rfl

theorem boot_rot (pv : Option Int) (ps : Option Nat) (s : State) : (boot pv ps s).rot = s.rot := by
  rw [boot_spec]
  rfl

theorem boot_btn (pv : Option Int) (ps : Option Nat) (s : State) : (boot pv ps s).btn = s.btn := by
  rw [boot_spec]
  rfl

/-! ### The takes of a tick (R158, R159) -/

theorem button_rot (dur now : Nat) (s : State) : (button dur now s).rot = s.rot := by
  rw [button_spec]
  split <;> rfl

theorem button_btn (dur now : Nat) (s : State) : (button dur now s).btn = s.btn := by
  rw [button_spec]
  split <;> rfl

theorem phaseButton_rot (now : Nat) (s : State) : (phaseButton now s).rot = s.rot := by
  unfold phaseButton
  split
  · rfl
  · next dur _ => exact button_rot dur now (clearBtn s)

theorem phaseButton_btn (now : Nat) (s : State) : (phaseButton now s).btn = none := by
  unfold phaseButton
  split
  · rfl
  · next dur _ => exact button_btn dur now (clearBtn s)

/-- The rotary phase empties its cell, and the button phase after it leaves that cell alone. -/
theorem tick_rot (now : Nat) (rc : Option Triple) (s : State) : (tick now rc s).rot = 0 := by
  rw [tick, phaseButton_rot, phaseRotary_rot]

theorem tick_btn (now : Nat) (rc : Option Triple) (s : State) : (tick now rc s).btn = none :=
  phaseButton_btn now _

theorem execTick_next_cells {now : Nat} {rc : Option Triple} {s t : State} (h : exec (.tick now rc) s = .next t) :
    t.rot = 0 ∧ t.btn = none := by
  obtain ⟨-, -, rfl⟩ := execTick_next.mp h
  exact ⟨tick_rot now rc s, tick_btn now rc s⟩

/-- Settles O30: each callback is one store to its cell; boot writes neither cell, and any completed tick leaves both empty. -/
theorem callbacksTouchOnlyTheirCell : Obligations.CallbacksTouchOnlyTheirCell := by
  intro s d dur pv ps
  refine ⟨⟨_, exec_cbRot d s, rfl⟩, ⟨_, exec_cbBtn dur s, rfl⟩, fun hboot => ?_⟩
  exact ⟨boot pv ps s, execBoot_next.mpr ⟨hboot, rfl⟩, boot_rot pv ps s, boot_btn pv ps s,
    fun _ _ _ htick => execTick_next_cells htick⟩

end Sys2Proof.Machine
end

section
/-! PROOFS. The state machine (43_fsm.md): which instructions can move its registers and by which handler, what each handler and each
phase of a tick can do to `MODE` and `MUTE`, the knob, and the mute toggle. -/

namespace Sys2Proof.Machine

open Sys2Proof

/-! ### Which instructions reach the state machine -/

/-- The registers of the state machine agree in `s` and `t`: the counterpart of `KeepsRest`. -/
structure KeepsControl (s t : State) : Prop where
  vol : t.vol = s.vol
  src : t.src = s.src
  mute : t.mute = s.mute
  mode : t.mode = s.mode
  tEntry : t.tEntry = s.tEntry

/-- The instruction of one turn of the knob (R178). -/
def rotInstr (d : Dir) (now : Nat) : Instr :=
  match d with
  | .up => .rotUp now
  | .down => .rotDown now

theorem exec_rotInstr (d : Dir) (now : Nat) (s : State) : exec (rotInstr d now) s = .next (rotary d now s) := by
  cases d <;> rfl

/-- The instruction and the next state of a completed step from `s`, by the handler of the state machine that ran, if one did. -/
inductive ControlStep (s : State) : Instr → State → Prop where
  | keeps {i : Instr} {t : State} (h : KeepsControl s t) : ControlStep s i t
  | app (e : AppEvent) (now : Nat) : ControlStep s (appInstr e now) (Machine.apply e now s)
  | rotary (d : Dir) (now : Nat) : ControlStep s (rotInstr d now) (rotary d now s)
  | button (dur now : Nat) : ControlStep s (.btn dur now) (button dur now s)
  | timeout : ControlStep s .timeout (timeout s)
  | tick (now : Nat) (rc : Option Triple) : ControlStep s (.tick now rc) { tick now rc s with lastNow := now }
  | boot (pv : Option Int) (ps : Option Nat) (h : s.booted = false) : ControlStep s (.boot pv ps) (boot pv ps s)

/-- Operations, frames, remote rows and callbacks keep the state machine's registers; every other row is one of its handlers. -/
theorem controlStep_of_exec {i : Instr} {s t : State} (h : exec i s = .next t) : ControlStep s i t := by
  cases i with
  | att _ | setVolume _ _ | mute | setGain | setExternalClock _ | setZeroCrossing _ | setLinkChannels _ | unmute
  | attL _ | attR _ | attLMute | attRMute | gain _ _ | states _
  | rcSrc1 _ | rcSrc2 _ | rcSrc3 _ | rcSrc4 _ | rcVolUp _ | rcVolDown _ | rcMute _ | rcPlay _ | rcOther _ _ _
  | cbRot _ | cbBtn _ =>
    cases h
    exact .keeps ⟨rfl, rfl, rfl, rfl, rfl⟩
  | volUp =>
    cases h
    exact .app (.volumeStep .up) 0
  | volDown =>
    cases h
    exact .app (.volumeStep .down) 0
  | selectSource n now =>
    cases h
    exact .app (.selectSource n) now
  | toggleMute =>
    cases h
    exact .app .toggleMute 0
  | playCd now =>
    cases h
    exact .app .playCd now
  | rotUp now =>
    cases h
    exact .rotary .up now
  | rotDown now =>
    cases h
    exact .rotary .down now
  | btn dur now =>
    cases h
    exact .button dur now
  | timeout =>
    cases h
    exact .timeout
  | tick now rc =>
    obtain ⟨-, -, rfl⟩ := execTick_next.mp h
    exact .tick now rc
  | boot pv ps =>
    obtain ⟨hboot, rfl⟩ := execBoot_next.mp h
    exact .boot pv ps hboot

/-! ### The mode (R152, R179, R180) -/

theorem phaseTimeout_mode_run_iff (now : Nat) (s : State) :
    (phaseTimeout now s).mode = .run ↔ s.mode = .run ∨ 5000 ≤ now - s.tEntry := by
  rw [phaseTimeout_spec]
  cases hm : s.mode <;> split <;> simp_all

/-- A press can only enter SourceSelect. -/
theorem mode_run_of_button {dur now : Nat} {s : State} (h : (button dur now s).mode = .run) : s.mode = .run := by
  rw [button_spec] at h
  split at h
  · cases h
  · exact h

theorem mode_run_of_phaseButton {now : Nat} {s : State} (h : (phaseButton now s).mode = .run) : s.mode = .run := by
  unfold phaseButton at h
  split at h
  · exact h
  · next dur _ => exact mode_run_of_button (s := clearBtn s) h

/-- The remote and the knob leave the mode as the timeout test made it. -/
theorem phaseRotary_phaseRemote_mode (now : Nat) (rc : Option Triple) (s : State) :
    (phaseRotary now (phaseRemote now rc s)).mode = s.mode := by
  rw [phaseRotary_mode, phaseRemote_mode]

theorem due_of_tick_mode_run {now : Nat} {rc : Option Triple} {s : State} (h : (tick now rc s).mode = .run) :
    s.mode = .run ∨ 5000 ≤ now - s.tEntry := by
  have hbefore := mode_run_of_phaseButton h
  rwa [phaseRotary_phaseRemote_mode, phaseTimeout_mode_run_iff] at hbefore

theorem phaseTimeout_btn (now : Nat) (s : State) : (phaseTimeout now s).btn = s.btn := by
  rw [phaseTimeout_spec]
  split <;> rfl

/-- With no press pending the timeout test alone settles the mode. -/
theorem tick_mode_of_btn_none (now : Nat) (rc : Option Triple) {s : State} (h : s.btn = none) :
    (tick now rc s).mode = (phaseTimeout now s).mode := by
  have hbtn : (phaseRotary now (phaseRemote now rc (phaseTimeout now s))).btn = none := by
    rw [phaseRotary_btn, (phaseRemote_cells now rc _).2, phaseTimeout_btn, h]
  rw [tick, phaseButton_none now _ hbtn, phaseRotary_phaseRemote_mode]

/-- Settles O41: the remote and the knob do not touch the mode, so a tick's mode is that of its timeout test, unless a press follows;
a press only enters SourceSelect, and every other handler keeps the mode. -/
theorem timeoutRevertsToRun : Obligations.TimeoutRevertsToRun := by
  refine ⟨fun _ => rfl, fun now rc s t hmode hbtn h => ?_, fun i s t h hmode hrun => ?_⟩
  · obtain ⟨-, -, rfl⟩ := execTick_next.mp h
    change (tick now rc s).mode = .run ↔ _
    rw [tick_mode_of_btn_none now rc hbtn, phaseTimeout_mode_run_iff]
    simp [hmode]
  · have hchanged : t.mode ≠ s.mode := by simp [hmode, hrun]
    cases controlStep_of_exec h with
    | keeps hk => exact absurd hk.mode hchanged
    | app e now => exact absurd (apply_mode e now s) hchanged
    | rotary d now => exact absurd (rotary_mode d now s) hchanged
    | button dur now => exact absurd ((mode_run_of_button hrun).symm.trans hmode) (by decide)
    | timeout => exact .inl rfl
    | tick now rc =>
      have hdue := (due_of_tick_mode_run hrun).resolve_left (by simp [hmode])
      exact .inr (.inl ⟨now, rc, rfl, hdue⟩)
    | boot pv ps hboot => exact .inr (.inr ⟨hboot, pv, ps, rfl⟩)

/-! ### The mute flag (R184) -/

theorem sourceChange_mute (n : Source) (now : Nat) (s : State) : (sourceChange n now s).mute = s.mute := by
  rw [sourceChange_spec]

/-- The knob is a volume step in Run (R178). -/
theorem rotary_of_run (d : Dir) (now : Nat) {s : State} (h : s.mode = .run) : rotary d now s = volumeStep d s := by
  simp [rotary, h]

/-- The knob is a source step in SourceSelect (R178). -/
theorem rotary_of_sourceSelect (d : Dir) (now : Nat) {s : State} (h : s.mode = .sourceSelect) :
    rotary d now s = sourceChange (nextSource s.src d) now s := by
  simp [rotary, h]

theorem run_of_rotary_clears_mute {d : Dir} {now : Nat} {s : State} (hs : s.mute = true)
    (h : (rotary d now s).mute = false) : s.mode = .run := by
  cases hmode : s.mode with
  | run => rfl
  | sourceSelect =>
    rw [rotary_of_sourceSelect d now hmode, sourceChange_mute, hs] at h
    cases h

theorem not_selectSource_of_apply_clears_mute {e : AppEvent} {now : Nat} {s : State} (hs : s.mute = true)
    (h : (Machine.apply e now s).mute = false) (n : Source) : e ≠ .selectSource n := by
  rintro rfl
  have hkept : (Machine.apply (.selectSource n) now s).mute = s.mute := sourceChange_mute n now s
  simp [hkept, hs] at h

theorem button_mute (dur now : Nat) (s : State) : (button dur now s).mute = s.mute := by
  rw [button_spec]
  split <;> rfl

theorem phaseButton_mute (now : Nat) (s : State) : (phaseButton now s).mute = s.mute := by
  unfold phaseButton
  split
  · rfl
  · next dur _ => exact button_mute dur now (clearBtn s)

/-- The knob's phase clears the flag only by a turn in Run. -/
theorem turn_of_phaseRotary_clears_mute {now : Nat} {s : State} (hs : s.mute = true)
    (h : (phaseRotary now s).mute = false) : s.rot ≠ 0 ∧ s.mode = .run := by
  refine ⟨fun hrot => ?_, ?_⟩
  · rw [phaseRotary_zero now s hrot, hs] at h
    cases h
  · unfold phaseRotary at h
    split at h
    · exact absurd (hs.symm.trans h) (by decide)
    · exact run_of_rotary_clears_mute (s := clearRot s) hs h

/-- The remote phase clears the flag only by an event that selects no source. -/
theorem event_of_phaseRemote_clears_mute {now : Nat} {rc : Option Triple} {s : State} (hs : s.mute = true)
    (h : (phaseRemote now rc s).mute = false) :
    ∃ r e, rc = some r ∧ dedupEvent r.toggle (classify s.cfg r.addr r.cmd) s = some e ∧ ∀ n, e ≠ .selectSource n := by
  cases rc with
  | none => exact absurd (hs.symm.trans h) (by decide)
  | some r =>
    rw [phaseRemote_some] at h
    split at h
    · exact absurd (hs.symm.trans h) (by decide)
    · next e he => exact ⟨r, e, rfl, he, not_selectSource_of_apply_clears_mute (s := track r.toggle s) hs h⟩

/-- The timeout test is a `Timeout` or nothing. -/
theorem phaseTimeout_eq_timeout_or_self (now : Nat) (s : State) :
    phaseTimeout now s = timeout s ∨ phaseTimeout now s = s := by
  rw [phaseTimeout_spec]
  split
  · exact .inl rfl
  · exact .inr rfl

theorem phaseTimeout_mute (now : Nat) (s : State) : (phaseTimeout now s).mute = s.mute := by
  obtain h | h := phaseTimeout_eq_timeout_or_self now s <;> rw [h]
  rfl

theorem phaseTimeout_rot (now : Nat) (s : State) : (phaseTimeout now s).rot = s.rot := by
  obtain h | h := phaseTimeout_eq_timeout_or_self now s <;> rw [h]
  rfl

/-- The timeout test, first in the tick, changes nothing the deduplicator reads. -/
theorem dedupEvent_phaseTimeout (now : Nat) (r : Triple) (s : State) :
    dedupEvent r.toggle (classify (phaseTimeout now s).cfg r.addr r.cmd) (phaseTimeout now s) =
      dedupEvent r.toggle (classify s.cfg r.addr r.cmd) s := by
  obtain h | h := phaseTimeout_eq_timeout_or_self now s <;> rw [h]
  rfl

/-- In a tick only the remote phase and the knob's can clear the flag. -/
theorem tick_clears_mute {now : Nat} {rc : Option Triple} {s : State} (hs : s.mute = true)
    (h : (tick now rc s).mute = false) :
    (∃ r e, rc = some r ∧ dedupEvent r.toggle (classify s.cfg r.addr r.cmd) s = some e ∧ ∀ n, e ≠ .selectSource n) ∨
      (s.rot ≠ 0 ∧ (s.mode = .run ∨ 5000 ≤ now - s.tEntry)) := by
  rw [tick, phaseButton_mute] at h
  have hmuted : (phaseTimeout now s).mute = true := (phaseTimeout_mute now s).trans hs
  cases hremote : (phaseRemote now rc (phaseTimeout now s)).mute with
  | false =>
    obtain ⟨r, e, hrc, he, hne⟩ := event_of_phaseRemote_clears_mute hmuted hremote
    exact .inl ⟨r, e, hrc, (dedupEvent_phaseTimeout now r s).symm.trans he, hne⟩
  | true =>
    obtain ⟨hrot, hrun⟩ := turn_of_phaseRotary_clears_mute hremote h
    rw [(phaseRemote_cells now rc _).1, phaseTimeout_rot] at hrot
    rw [phaseRemote_mode, phaseTimeout_mode_run_iff] at hrun
    exact .inr ⟨hrot, hrun⟩

/-- Settles O49: of the application events only a source selection keeps the flag, the knob clears it only in Run, and a tick is
those two phases after its timeout test. -/
theorem onlyTheseClearMute : Obligations.OnlyTheseClearMute := by
  intro i s t h hs ht
  have hcleared : t.mute ≠ s.mute := by simp [hs, ht]
  cases controlStep_of_exec h with
  | keeps hk => exact absurd hk.mute hcleared
  | app e now =>
    cases e with
    | selectSource n => exact absurd rfl (not_selectSource_of_apply_clears_mute hs ht n)
    | volumeStep d => cases d <;> simp [appInstr]
    | toggleMute => simp [appInstr]
    | playCd => simp [appInstr]
  | rotary d now =>
    have hrun := run_of_rotary_clears_mute hs ht
    cases d <;> simp [rotInstr, hrun]
  | button dur now => exact absurd (button_mute dur now s) hcleared
  | timeout => exact absurd (timeout_mute s) hcleared
  | tick now rc => simpa using tick_clears_mute hs ht
  | boot pv ps _ => simp

/-! ### The knob (R174, R178) -/

/-- Settles O37, by the four rows of R174's table. -/
theorem nextSourceIsCyclic : Obligations.NextSourceIsCyclic := by
  intro n
  cases n <;> exact ⟨rfl, rfl⟩

theorem nextSource_ne (n : Source) (d : Dir) : nextSource n d ≠ n := by
  cases n <;> cases d <;> decide

/-- In Run a turn is the volume step of the same direction. -/
theorem exec_rotInstr_of_run (d : Dir) (now : Nat) {s : State} (h : s.mode = .run) :
    exec (rotInstr d now) s = exec (appInstr (.volumeStep d) now) s := by
  rw [exec_rotInstr, rotary_of_run d now h]
  cases d <;> rfl

/-- In SourceSelect a turn selects the cyclic successor. -/
theorem exec_rotInstr_of_sourceSelect (d : Dir) (now : Nat) {s : State} (h : s.mode = .sourceSelect) :
    exec (rotInstr d now) s = exec (.selectSource (nextSource s.src d) now) s := by
  rw [exec_rotInstr, rotary_of_sourceSelect d now h]
  rfl

/-- In SourceSelect a turn commits the successor and re-arms, and keeps the level and the mute flag. -/
theorem exec_rotInstr_commits (d : Dir) (now : Nat) {s : State} (h : s.mode = .sourceSelect) :
    ∃ t, exec (rotInstr d now) s = .next t ∧ t.src = nextSource s.src d ∧ t.tEntry = now ∧ t.vol = s.vol ∧
      t.mute = s.mute := by
  refine ⟨_, exec_rotInstr d now s, ?_⟩
  simp [rotary_of_sourceSelect d now h, sourceChange_spec, h]

/-- Settles O39: the facts about one turn, at both directions. -/
theorem rotaryDependsOnTheMode : Obligations.RotaryDependsOnTheMode := by
  intro now s
  refine ⟨fun h => ⟨exec_rotInstr_of_run .up now h, exec_rotInstr_of_run .down now h⟩, fun h => ?_⟩
  exact ⟨exec_rotInstr_of_sourceSelect .up now h, exec_rotInstr_of_sourceSelect .down now h,
    nextSource_ne s.src .up, nextSource_ne s.src .down, exec_rotInstr_commits .up now h, exec_rotInstr_commits .down now h⟩

/-! ### The mute toggle (R181, R182) -/

theorem exec_toggleMute (s : State) : exec .toggleMute s = .next (toggleMute s) := rfl

/-- Settles O42: each half of the toggle in closed form, with its pair of frames written out. -/
theorem toggleMuteOnAndOff : Obligations.ToggleMuteOnAndOff := by
  intro s
  refine ⟨fun h => ?_, fun h => ?_⟩
  · simp [exec_toggleMute, toggleMute_spec, h, emit, attPair]
  · simp [exec_toggleMute, toggleMute_spec, h, unmute_spec, emit, attPair]

end Sys2Proof.Machine
end

section
/-! PROOFS. Exceptions (60_exceptions.md section 1): there is no fault to raise, and a booted core takes every tick of a legal clock. -/

namespace Sys2Proof.Machine

open Sys2Proof

/-- R187 met by the timer and H-2 met by the sample make the sample lie after a running timer's start. -/
theorem TimerInv.clockOk_of_le {now : Nat} {s : State} (hinv : TimerInv s) (hbooted : s.booted = true) (hnow : s.lastNow ≤ now) :
    clockOk s now = true :=
  (clockOk_iff s now).mpr ⟨hnow, fun hmode => (hinv.started hbooted hmode).trans hnow⟩

/-- Settles O27: no outcome is a fault, for want of a fault; the guard of the tick holds by the timer invariant, and no phase of
the tick writes `BOOTED`. -/
theorem bootedTickAlwaysCompletes : Obligations.BootedTickAlwaysCompletes := by
  refine ⟨fun _ _ f => (nomatch f), fun now rc s hbooted hinv hnow => ?_⟩
  have hnext : exec (.tick now rc) s = .next { tick now rc s with lastNow := now } :=
    execTick_next.mpr ⟨hbooted, hinv.clockOk_of_le hbooted hnow, rfl⟩
  exact ⟨_, hnext, rfl, (tick_keepsApart now rc s).booted.trans hbooted⟩

end Sys2Proof.Machine
end

section
/-! PROOFS. What a step is made of. A step takes the next input and runs it (10_state.md R21, R98); what an agent's step does outside
the boot step is a sequence of small moves (42_aggregator.md R151), so an invariant of the integrated core that every move keeps, and
that boot establishes, holds along every run. -/

namespace Sys2Proof.Machine

open Sys2Proof

/-! ### Taking the next input -/

theorem step_of_decode_ok {s : State} {x : Input} {rest : List Input} {i : Instr} (hin : s.inputs = x :: rest)
    (hdec : decode s.cfg x = .ok i) : step s = exec i { s with inputs := rest } := by
  simp [step, hin, hdec]

theorem step_of_decode_error {s : State} {x : Input} {rest : List Input} {e : DecodeError} (hin : s.inputs = x :: rest)
    (hdec : decode s.cfg x = .error e) : step s = .refused (.undecodable e) := by
  simp [step, hin, hdec]

theorem step_of_no_input {s : State} (hin : s.inputs = []) : step s = .next s := by
  simp [step, hin]

/-- Settles O52: one equation for each outcome of the decoder. -/
theorem stepRunsTheNextInput : Obligations.StepRunsTheNextInput :=
  ⟨fun _ _ _ _ => step_of_decode_ok, fun _ _ _ _ => step_of_decode_error, fun _ => step_of_no_input⟩

theorem decode_of_decodeTableWord {nbits w : Nat} {i : Instr} (h : decodeTableWord nbits w = some i) :
    decode (tableCfg w).cfg (.bytes (tableBytes nbits w)) = .ok i := by
  unfold decodeTableWord at h
  split at h
  · next j hj => rw [hj, Option.some.inj h]
  · cases h

/-- Settles O53: the word is the next input, and what the step leaves offered is what was offered before. -/
theorem tableWordRunsNext : Obligations.TableWordRunsNext := by
  intro s nbits w i h
  exact step_of_decode_ok (s := s.withFetchWord nbits w) rfl (decode_of_decodeTableWord h)

/-- A step that completes rests, or takes the next input and runs what it decodes to. -/
theorem step_next_cases {s t : State} (h : step s = .next t) :
    t = s ∨ ∃ x rest i, s.inputs = x :: rest ∧ decode s.cfg x = .ok i ∧ exec i { s with inputs := rest } = .next t := by
  cases hin : s.inputs with
  | nil =>
    rw [step_of_no_input hin] at h
    cases h
    exact .inl rfl
  | cons x rest =>
    cases hdec : decode s.cfg x with
    | ok i => exact .inr ⟨x, rest, i, rfl, hdec, (step_of_decode_ok hin hdec).symm.trans h⟩
    | error e =>
      rw [step_of_decode_error hin hdec] at h
      cases h

/-! ### Moves -/

/-- `s` and `t` agree in every register the invariants of R42 read and in `OUT`; what may differ is the mode and its timer, the
tracker, the two cells, and the model's own fields. -/
structure Quiet (s t : State) : Prop where
  vol : t.vol = s.vol
  src : t.src = s.src
  mute : t.mute = s.mute
  gopt : t.gopt = s.gopt
  dopt : t.dopt = s.dopt
  booted : t.booted = s.booted
  config : t.config = s.config
  out : t.out = s.out

/-- The small moves the state machine's handlers are made of: a quiet one, the two halves of the mute toggle, one committed level,
one committed source. -/
inductive Move (s : State) : State → Prop where
  | quiet {t : State} (h : Quiet s t) : Move s t
  | unmute : Move s (unmute s)
  | muteOn : Move s (emit (attPair s.cfg 0 0 ++ [.display .showMuted, .displayFlush]) { s with mute := true })
  | level (v : Int) (hmute : s.mute = false) (hrange : -447 ≤ v ∧ v ≤ 0) (hne : v ≠ s.vol) :
    Move s (emit (volumeActions s.cfg v) { s with vol := v })
  | source (n : Source) (hne : n ≠ s.src) : Move s (commitSource n s)

/-- Any number of moves. -/
abbrev Moves : State → State → Prop := Relation.ReflTransGen Move

theorem Quiet.moves {s t : State} (h : Quiet s t) : Moves s t := .single (.quiet h)

/-- What every move keeps, any number of them keeps. -/
theorem Moves.keeps {P : State → Prop} (hmove : ∀ {u v}, Move u v → P u → P v) {s t : State} (h : Moves s t) (hs : P s) :
    P t := by
  induction h with
  | refl => exact hs
  | tail _ hlast ih => exact hmove hlast ih

theorem Move.booted {s t : State} (h : Move s t) : t.booted = s.booted := by
  cases h with
  | quiet h => exact h.booted
  | source n hne => rw [commitSource_spec]; rfl
  | _ => rfl

theorem clamp_range (x : Int) : -447 ≤ clamp x ∧ clamp x ≤ 0 := by
  unfold clamp volMin volMax
  omega

/-! ### The handlers are moves -/

theorem commitVolume_moves {v : Int} {s : State} (hmute : s.mute = false) (hrange : -447 ≤ v ∧ v ≤ 0) :
    Moves s (commitVolume v s) := by
  rw [commitVolume_spec]
  split
  · exact .refl
  · next hne => exact .single (.level v hmute hrange hne)

theorem volumeStep_moves (d : Dir) (s : State) : Moves s (volumeStep d s) := by
  cases hmute : s.mute with
  | false =>
    rw [volumeStep_unmuted d s hmute]
    exact commitVolume_moves hmute (clamp_range _)
  | true =>
    have hunmuted : (unmute s).mute = false := by rw [unmute_spec]; rfl
    rw [volumeStep_muted d s hmute, volumeStep_unmuted d _ hunmuted]
    exact .head .unmute (commitVolume_moves hunmuted (clamp_range _))

theorem rearm_moves (now : Nat) (s : State) : Moves s (rearm now s) := by
  rw [rearm_spec]
  exact Quiet.moves ⟨rfl, rfl, rfl, rfl, rfl, rfl, rfl, rfl⟩

theorem sourceChange_moves (n : Source) (now : Nat) (s : State) : Moves s (sourceChange n now s) := by
  unfold sourceChange
  split
  · exact rearm_moves now s
  · next hne => exact .head (.source n hne) (rearm_moves now _)

theorem toggleMute_moves (s : State) : Moves s (toggleMute s) := by
  rw [toggleMute_spec]
  split
  · exact .single .unmute
  · exact .single .muteOn

theorem playCd_moves (now : Nat) (s : State) : Moves s (playCd now s) := by
  unfold playCd
  dsimp only
  split
  · exact .tail (sourceChange_moves .cd now s) .unmute
  · exact sourceChange_moves .cd now s

theorem apply_moves (e : AppEvent) (now : Nat) (s : State) : Moves s (Machine.apply e now s) := by
  cases e with
  | selectSource n => exact sourceChange_moves n now s
  | volumeStep d => exact volumeStep_moves d s
  | toggleMute => exact toggleMute_moves s
  | playCd => exact playCd_moves now s

theorem rotary_moves (d : Dir) (now : Nat) (s : State) : Moves s (rotary d now s) := by
  unfold rotary
  split
  · exact volumeStep_moves d s
  · exact sourceChange_moves _ now s

theorem button_moves (dur now : Nat) (s : State) : Moves s (button dur now s) := by
  rw [button_spec]
  split
  · exact Quiet.moves ⟨rfl, rfl, rfl, rfl, rfl, rfl, rfl, rfl⟩
  · exact .refl

theorem timeout_moves (s : State) : Moves s (timeout s) := Quiet.moves ⟨rfl, rfl, rfl, rfl, rfl, rfl, rfl, rfl⟩

/-! ### A tick is moves (42_aggregator.md R151) -/

theorem phaseTimeout_moves (now : Nat) (s : State) : Moves s (phaseTimeout now s) := by
  obtain h | h := phaseTimeout_eq_timeout_or_self now s <;> rw [h]
  exact timeout_moves s

theorem phaseRemote_moves (now : Nat) (rc : Option Triple) (s : State) : Moves s (phaseRemote now rc s) := by
  cases rc with
  | none => exact .refl
  | some r =>
    have htrack : Moves s (track r.toggle s) := Quiet.moves ⟨rfl, rfl, rfl, rfl, rfl, rfl, rfl, rfl⟩
    rw [phaseRemote_some]
    split
    · exact htrack
    · next e _ => exact htrack.trans (apply_moves e now _)

theorem phaseRotary_moves (now : Nat) (s : State) : Moves s (phaseRotary now s) := by
  have hclear : Moves s (clearRot s) := Quiet.moves ⟨rfl, rfl, rfl, rfl, rfl, rfl, rfl, rfl⟩
  unfold phaseRotary
  split
  · exact hclear
  · next d _ => exact hclear.trans (rotary_moves d now _)

theorem phaseButton_moves (now : Nat) (s : State) : Moves s (phaseButton now s) := by
  have hclear : Moves s (clearBtn s) := Quiet.moves ⟨rfl, rfl, rfl, rfl, rfl, rfl, rfl, rfl⟩
  unfold phaseButton
  split
  · exact hclear
  · next dur _ => exact hclear.trans (button_moves dur now _)

/-- A completed tick, its clock sample kept. -/
theorem tick_moves (now : Nat) (rc : Option Triple) (s : State) : Moves s { tick now rc s with lastNow := now } :=
  (((phaseTimeout_moves now s).trans (phaseRemote_moves now rc _)).trans
    ((phaseRotary_moves now _).trans (phaseButton_moves now _))).tail
      (.quiet ⟨rfl, rfl, rfl, rfl, rfl, rfl, rfl, rfl⟩)

/-! ### The steps of the two agents -/

/-- What a completed step of an agent does: rest or a callback, the boot step of a core not booted, or the tick of a booted one. -/
inductive AgentStep (s : State) : State → Prop where
  | quiet {t : State} (h : Quiet s t) : AgentStep s t
  | boot {u : State} (hbooted : s.booted = false) (hu : Quiet s u) (pv : Option Int) (ps : Option Nat) :
    AgentStep s (boot pv ps u)
  | tick {t : State} (hbooted : s.booted = true) (ht : Moves s t) : AgentStep s t

/-- An instruction of an agent, run on the state its input was taken from. -/
theorem agentStep_of_exec {i : Instr} {s t : State} {rest : List Input} (hi : i.isAgentStep = true)
    (h : exec i { s with inputs := rest } = .next t) : AgentStep s t := by
  have htake : Quiet s { s with inputs := rest } := ⟨rfl, rfl, rfl, rfl, rfl, rfl, rfl, rfl⟩
  cases i with
  | boot pv ps =>
    obtain ⟨hbooted, rfl⟩ := execBoot_next.mp h
    exact .boot (s := s) hbooted htake pv ps
  | tick now rc =>
    obtain ⟨hbooted, -, rfl⟩ := execTick_next.mp h
    exact .tick (s := s) hbooted (htake.moves.trans (tick_moves now rc _))
  | cbRot _ | cbBtn _ =>
    cases h
    exact .quiet ⟨rfl, rfl, rfl, rfl, rfl, rfl, rfl, rfl⟩
  | _ => cases hi

theorem decode_eq_ok_of_isAgentInput {c : Cfg} {x : Input} {i : Instr} (hx : isAgentInput x = true)
    (h : decode c x = .ok i) : i.isAgentStep = true := by
  cases x with
  | bytes _ | triple _ => cases hx
  | call j =>
    change decodeCall j = .ok i at h
    unfold decodeCall at h
    split at h <;> cases h <;> exact hx

theorem exec_inputs {i : Instr} {s t : State} (h : exec i s = .next t) : t.inputs = s.inputs := by
  obtain ⟨-, -, -, -, -, -, -, hinputs⟩ := writersOfShadowsAndConfiguration i s t h
  exact hinputs

/-- With only the agents' inputs offered, a step that completes is a step of an agent, and only theirs stay offered. -/
theorem agentStep_of_step {s t : State} (hs : AgentsOnly s) (h : step s = .next t) : AgentsOnly t ∧ AgentStep s t := by
  obtain rfl | ⟨x, rest, i, hin, hdec, hexec⟩ := step_next_cases h
  · exact ⟨hs, .quiet ⟨rfl, rfl, rfl, rfl, rfl, rfl, rfl, rfl⟩⟩
  · have hagent : ∀ y ∈ x :: rest, isAgentInput y = true := fun y hy => hs y (hin ▸ hy)
    have hi := decode_eq_ok_of_isAgentInput (hagent x (.head rest)) hdec
    refine ⟨fun y hy => hagent y (.tail x ?_), agentStep_of_exec hi hexec⟩
    rwa [exec_inputs hexec] at hy

theorem boot_booted (pv : Option Int) (ps : Option Nat) (s : State) : (Machine.boot pv ps s).booted = true := rfl

/-- The induction step for what holds from boot on, of a core that is silent before: every move keeps it, boot establishes it. -/
theorem AgentStep.keeps {Q : State → Prop} (hmove : ∀ {u v}, Move u v → Q u → Q v)
    (hboot : ∀ pv ps u, u.out = [] → Q (Machine.boot pv ps u)) {s t : State} (h : AgentStep s t)
    (hsilent : s.booted = false → s.out = []) (hq : s.booted = true → Q s) :
    (t.booted = false → t.out = []) ∧ (t.booted = true → Q t) := by
  cases h with
  | quiet h =>
    rw [h.booted, h.out]
    exact ⟨hsilent, fun hb => hmove (.quiet h) (hq hb)⟩
  | @boot u hbooted hu pv ps =>
    exact ⟨fun hb => absurd (boot_booted pv ps u) (by simp [hb]), fun _ => hboot pv ps u (hu.out.trans (hsilent hbooted))⟩
  | tick hbooted ht =>
    have htbooted : t.booted = true := ht.keeps (P := fun u => u.booted = true) (fun m hu => m.booted.trans hu) hbooted
    exact ⟨fun hb => absurd htbooted (by simp [hb]), fun _ => ht.keeps hmove (hq hbooted)⟩

end Sys2Proof.Machine
end

section
/-! PROOFS. The routing invariant (20_memory.md R58, 70_reset_and_hazards.md R240): what each list of actions does to the replay of
the routing writes. Only a source commit and boot write the lines. -/

namespace Sys2Proof.Machine

open Sys2Proof

/-! ### Replaying a trace -/

/-- A replay that no action moves. -/
theorem foldl_eq_self {β : Type} {f : β → Action → β} {b : β} {as : List Action} (h : ∀ a ∈ as, f b a = b) :
    as.foldl f b = b := by
  induction as with
  | nil => rfl
  | cons a as ih =>
    rw [List.foldl_cons, h a (.head as)]
    exact ih fun x hx => h x (.tail a hx)

/-! ### The lines -/

theorem routeScan_append (out as : List Action) : routeScan (out ++ as) = as.foldl RouteScan.next (routeScan out) :=
  List.foldl_append

/-- Actions that write no routing line leave the replay alone. -/
theorem foldl_routeScan_of_no_route {as : List Action} (h : ∀ n lvl, .routeWrite n lvl ∉ as) (p : RouteScan) :
    as.foldl RouteScan.next p = p := by
  apply foldl_eq_self
  intro a ha
  cases a with
  | routeWrite n lvl => exact absurd ha (h n lvl)
  | frameTx _ | persistWrite _ _ | display _ | displayFlush => rfl

theorem routeScan_append_of_no_route {as : List Action} (h : ∀ n lvl, .routeWrite n lvl ∉ as) (out : List Action) :
    routeScan (out ++ as) = routeScan out := by
  rw [routeScan_append, foldl_routeScan_of_no_route h]

/-- A source commit breaks the one enabled line before it makes the next one (R175). -/
theorem foldl_routeScan_sourceActions (c : Cfg) (old new : Source) (muted : Bool) :
    (sourceActions c old new muted).foldl RouteScan.next ⟨[old], true⟩ = ⟨[new], true⟩ := by
  cases muted <;> simp [sourceActions, attPair, RouteScan.next]

/-- Exactly the line of the active source is enabled, and no line ever was beside another. -/
def RoutedAlone (s : State) : Prop := routeScan s.out = ⟨[s.src], true⟩

theorem Move.keeps_routedAlone {s t : State} (h : Move s t) (hs : RoutedAlone s) : RoutedAlone t := by
  unfold RoutedAlone at *
  cases h with
  | quiet h => rw [h.out, h.src, hs]
  | unmute =>
    rw [unmute_spec, emit_out, routeScan_append_of_no_route (by simp [attPair])]
    exact hs
  | muteOn =>
    rw [emit_out, routeScan_append_of_no_route (by simp [attPair])]
    exact hs
  | level v _ _ _ =>
    rw [emit_out, routeScan_append_of_no_route (by simp [volumeActions, attPair])]
    exact hs
  | source n _ =>
    rw [commitSource_spec, emit_out, routeScan_append]
    change (sourceActions s.cfg s.src n s.mute).foldl RouteScan.next (routeScan s.out) = ⟨[n], true⟩
    rw [hs, foldl_routeScan_sourceActions]

/-- Boot disables all four lines, whatever they were, before it enables one (D28). -/
theorem boot_routedAlone (pv : Option Int) (ps : Option Nat) {s : State} (hout : s.out = []) :
    RoutedAlone (boot pv ps s) := by
  rw [RoutedAlone, boot_spec]
  simp [hout, routeScan, RouteScan.start, RouteScan.next, attPair, bootRegisters]

/-- Settles O55: a commit replays from the one enabled line to the other with no line between, boot from any lines to one, and no
other move writes a line. -/
theorem everyStepKeepsRoutingExclusive : Obligations.EveryStepKeepsRoutingExclusive := by
  intro s t hs h
  obtain ⟨hagents, hstep⟩ := agentStep_of_step hs.agentsOnly h
  obtain ⟨hsilent, hrouted⟩ := hstep.keeps Move.keeps_routedAlone (fun pv ps _ => boot_routedAlone pv ps)
    hs.silentBeforeBoot hs.exclusive
  exact ⟨hagents, hsilent, hrouted⟩

end Sys2Proof.Machine
end

section
/-! PROOFS. Frame integrity (70_reset_and_hazards.md R242): every list of actions the core appends sends its attenuation frames in
pairs. That a left frame is told from a right one, and both from an option frame, is the distinctness of the four addresses (R55). -/

namespace Sys2Proof

/-! ### The data of a frame -/

/-- Outside the address field a frame is its data (R81, R82). -/
theorem frame_and_not_addrMask {c : Cfg} {sel data : Word} (hsel : sel ∈ c.selects) (hdata : data &&& c.addrMask = 0) :
    frame c sel data &&& ~~~c.addrMask = data := by
  rw [frame_eq]
  apply BitVec.eq_of_getLsbD_eq
  intro i hi
  have hclear := and_eq_zero_iff_bits.mp hdata i hi
  have hpart := c.addressPart_in_addrMask hsel i
  rw [BitVec.getLsbD_and, BitVec.getLsbD_or, BitVec.getLsbD_not]
  cases hm : c.addrMask.getLsbD i <;> simp_all

theorem Cfg.selAttL_mem_selects (c : Cfg) : c.selAttL ∈ c.selects := by simp [Cfg.selects]
theorem Cfg.selAttR_mem_selects (c : Cfg) : c.selAttR ∈ c.selects := by simp [Cfg.selects]
theorem Cfg.selGain_mem_selects (c : Cfg) : c.selGain ∈ c.selects := by simp [Cfg.selects]
theorem Cfg.selStates_mem_selects (c : Cfg) : c.selStates ∈ c.selects := by simp [Cfg.selects]

end Sys2Proof

namespace Sys2Proof.Machine

open Sys2Proof

/-! ### Lists of actions -/

theorem pairScan_append (c : Cfg) (out as : List Action) :
    pairScan c (out ++ as) = as.foldl (PairScan.next c) (pairScan c out) :=
  List.foldl_append

/-- Replayed with no left frame waiting, the actions leave none waiting and none unpaired. -/
def SendsPairs (c : Cfg) (as : List Action) : Prop := as.foldl (PairScan.next c) ⟨none, true⟩ = ⟨none, true⟩

theorem SendsPairs.append {c : Cfg} {as bs : List Action} (ha : SendsPairs c as) (hb : SendsPairs c bs) :
    SendsPairs c (as ++ bs) := by
  unfold SendsPairs at *
  rw [List.foldl_append, ha, hb]

theorem sendsPairs_of_no_frame (c : Cfg) {as : List Action} (h : ∀ w, .frameTx w ∉ as) : SendsPairs c as := by
  apply foldl_eq_self
  intro a ha
  cases a with
  | frameTx w => exact absurd ha (h w)
  | routeWrite _ _ | persistWrite _ _ | display _ | displayFlush => rfl

/-- The left frame waits for its data, and the right frame is the one with the same data. -/
theorem sendsPairs_attPair {c : Cfg} {data : Word} (hdata : data &&& c.addrMask = 0) :
    SendsPairs c (attPair c data data) := by
  have hleft := c.selAttL_mem_selects
  simp [SendsPairs, attPair, PairScan.next, frame_and_addrMask hleft hdata, frame_and_not_addrMask hleft hdata]

/-- An option frame is at neither attenuation address. -/
theorem sendsPairs_optionFrame {c : Cfg} (p : c.Placed) {sel data : Word} (hsel : sel = c.selGain ∨ sel = c.selStates)
    (hdata : data &&& c.addrMask = 0) : SendsPairs c [.frameTx (frame c sel data)] := by
  have hmem : sel ∈ c.selects := by rcases hsel with rfl | rfl <;> simp [Cfg.selects]
  have hdistinct := p.addressParts_nodup
  have hne : c.addressPart sel ≠ c.addressPart c.selAttL ∧ c.addressPart sel ≠ c.addressPart c.selAttR := by
    rcases hsel with rfl | rfl <;> simp_all [eq_comm]
  simp [SendsPairs, PairScan.next, frame_and_addrMask hmem hdata, hne]

theorem sendsPairs_level {c : Cfg} (p : c.Placed) (v : Int) : SendsPairs c (attPair c (att v) (att v)) :=
  sendsPairs_attPair (p.att_clear v)

theorem sendsPairs_hardMute (c : Cfg) : SendsPairs c (attPair c 0 0) := sendsPairs_attPair BitVec.zero_and

theorem sendsPairs_sourceActions (c : Cfg) (old new : Source) (muted : Bool) :
    SendsPairs c (sourceActions c old new muted) := by
  have hfree {as : List Action} (h : ∀ w, .frameTx w ∉ as) := sendsPairs_of_no_frame c h
  cases muted with
  | false => exact hfree (by simp [sourceActions])
  | true =>
    exact (((hfree (by simp)).append (sendsPairs_hardMute c)).append (hfree (by simp))).append (hfree (by simp))
      |>.append (hfree (by simp))

/-! ### States -/

/-- In the output trace every left attenuation frame is followed at once by its right one. -/
def FramesPaired (s : State) : Prop := pairScan s.cfg s.out = ⟨none, true⟩

/-- Appended pairs keep the trace paired. -/
theorem FramesPaired.of_appended {s t : State} {as : List Action} (hs : FramesPaired s) (hconfig : t.config = s.config)
    (hout : t.out = s.out ++ as) (has : SendsPairs s.cfg as) : FramesPaired t := by
  unfold FramesPaired State.cfg at *
  rw [hconfig, hout, pairScan_append, hs]
  exact has

theorem Move.keeps_framesPaired {s t : State} (h : Move s t) (hs : FramesPaired s) : FramesPaired t := by
  have p := s.placed
  have hfree {as : List Action} (h : ∀ w, .frameTx w ∉ as) := sendsPairs_of_no_frame s.cfg h
  cases h with
  | quiet h => exact hs.of_appended h.config (h.out.trans (List.append_nil _).symm) (hfree (by simp))
  | unmute =>
    rw [unmute_spec]
    exact hs.of_appended rfl rfl ((sendsPairs_level p s.vol).append (hfree (by simp)))
  | muteOn => exact hs.of_appended rfl rfl ((sendsPairs_hardMute s.cfg).append (hfree (by simp)))
  | level v _ _ _ => exact hs.of_appended rfl rfl ((sendsPairs_level p v).append (hfree (by simp)))
  | source n _ =>
    rw [commitSource_spec]
    exact hs.of_appended rfl rfl (sendsPairs_sourceActions s.cfg s.src n s.mute)

/-- Boot sends its two option frames, its routing writes, one pair, and its display requests (R233). -/
theorem boot_keeps_framesPaired (pv : Option Int) (ps : Option Nat) {s : State} (hs : FramesPaired s) :
    FramesPaired (boot pv ps s) := by
  have p := s.placed
  have hfree {as : List Action} (h : ∀ w, .frameTx w ∉ as) := sendsPairs_of_no_frame s.cfg h
  rw [boot_spec]
  refine hs.of_appended rfl (by rw [List.append_assoc, List.append_assoc]) ?_
  have hstates := sendsPairs_optionFrame p (.inr rfl) (packDev_clear p ⟨true, false⟩)
  have hgain := sendsPairs_optionFrame p (.inl rfl) (packGain_clear p ⟨false, false, 0⟩)
  exact (hstates.append (hgain.append (hfree (by simp)))).append ((sendsPairs_level p (bootVol pv)).append (hfree (by simp)))

/-- Settles O56: every move, and boot, appends its attenuation frames in pairs. -/
theorem everyStepKeepsFramesPaired : Obligations.EveryStepKeepsFramesPaired := by
  intro s t hs h
  obtain ⟨hagents, hstep⟩ := agentStep_of_step hs.agentsOnly h
  have hpaired : FramesPaired s := hs.paired
  refine ⟨hagents, ?_⟩
  cases hstep with
  | quiet h => exact (Move.quiet h).keeps_framesPaired hpaired
  | boot _ hu pv ps => exact boot_keeps_framesPaired pv ps ((Move.quiet hu).keeps_framesPaired hpaired)
  | tick _ ht => exact ht.keeps Move.keeps_framesPaired hpaired

end Sys2Proof.Machine
end

section
/-! PROOFS. The persisted store (20_memory.md section 3): a move that changes the level or the source stores the new value, and no
other move stores anything (decisions D20, D21). So what stands last under a key of the actions of a run, if anything, is its
register. -/

namespace Sys2Proof.Machine

open Sys2Proof

/-! ### Readings of the store -/

theorem source_index_injective : Function.Injective Source.index := by
  intro m n
  cases m <;> cases n <;> decide

/-- The register a key of the store stands for (R59). -/
def State.stored (s : State) : Key → Int
  | .volume => s.vol
  | .source => s.src.index

theorem persisted_eq_or (k : Key) (acc : Option Int) (a : Action) :
    persisted k acc a = (persisted k none a).or acc := by
  cases a with
  | persistWrite key x => by_cases h : key = k <;> simp [persisted, h]
  | frameTx _ | routeWrite _ _ | display _ | displayFlush => rfl

theorem foldl_persisted (k : Key) (as : List Action) (acc : Option Int) :
    as.foldl (persisted k) acc = (lastPersist k as).or acc := by
  induction as generalizing acc with
  | nil => rfl
  | cons a as ih => rw [List.foldl_cons, ih, persisted_eq_or, ← Option.or_assoc, ← ih, lastPersist, List.foldl_cons]

theorem lastPersist_append (k : Key) (as bs : List Action) :
    lastPersist k (as ++ bs) = (lastPersist k bs).or (lastPersist k as) := by
  rw [← foldl_persisted]
  exact List.foldl_append

theorem lastPersist_eq_none {k : Key} {as : List Action} (h : ∀ x, .persistWrite k x ∉ as) : lastPersist k as = none := by
  apply foldl_eq_self
  intro a ha
  cases a with
  | persistWrite key x =>
    have hne : key ≠ k := fun hk => h x (hk ▸ ha)
    simp [persisted, hne]
  | frameTx _ | routeWrite _ _ | display _ | displayFlush => rfl

/-! ### Written through -/

/-- `t` differs from `s` in `OUT` by appended actions, and each key's register in `t` is the value they store last under the key, or,
if they store none, what it was in `s`. -/
def WrittenThrough (s t : State) : Prop :=
  ∃ as, t.out = s.out ++ as ∧ ∀ k, (lastPersist k as).getD (s.stored k) = t.stored k

theorem WrittenThrough.trans {s t u : State} (h : WrittenThrough s t) (g : WrittenThrough t u) : WrittenThrough s u := by
  obtain ⟨as, hout, has⟩ := h
  obtain ⟨bs, gout, hbs⟩ := g
  refine ⟨as ++ bs, by rw [gout, hout, List.append_assoc], fun k => ?_⟩
  rw [← hbs k, ← has k, lastPersist_append]
  cases lastPersist k bs <;> rfl

/-- Written through, and a register that stays as it was is not stored. -/
def StoresChanges (s t : State) : Prop :=
  ∃ as, t.out = s.out ++ as ∧ ∀ k, (lastPersist k as).getD (s.stored k) = t.stored k ∧
    (t.stored k = s.stored k → ∀ x, .persistWrite k x ∉ as)

theorem StoresChanges.writtenThrough {s t : State} (h : StoresChanges s t) : WrittenThrough s t := by
  obtain ⟨as, hout, has⟩ := h
  exact ⟨as, hout, fun k => (has k).1⟩

/-- Actions that store nothing, beside registers that stay. -/
theorem StoresChanges.of_no_store {s t : State} {as : List Action} (hout : t.out = s.out ++ as)
    (has : ∀ k x, .persistWrite k x ∉ as) (hvol : t.vol = s.vol) (hsrc : t.src = s.src) : StoresChanges s t := by
  refine ⟨as, hout, fun k => ⟨?_, fun _ => has k⟩⟩
  rw [lastPersist_eq_none (has k)]
  cases k <;> simp [State.stored, hvol, hsrc]

theorem StoresChanges.of_silent {s t : State} (hout : t.out = s.out) (hvol : t.vol = s.vol) (hsrc : t.src = s.src) :
    StoresChanges s t :=
  .of_no_store (as := []) (by simp [hout]) (by simp) hvol hsrc

/-! ### The handlers (43_fsm.md R172 to R183) -/

theorem unmute_storesChanges (s : State) : StoresChanges s (unmute s) := by
  rw [unmute_spec]
  exact .of_no_store rfl (by simp [attPair]) rfl rfl

theorem toggleMute_storesChanges (s : State) : StoresChanges s (toggleMute s) := by
  rw [toggleMute_spec]
  split
  · exact unmute_storesChanges s
  · exact .of_no_store rfl (by simp [attPair]) rfl rfl

theorem lastPersist_volumeActions (c : Cfg) (v : Int) : lastPersist .volume (volumeActions c v) = some v := rfl

/-- A source commit after actions that store nothing: under the source's key its index, under the level's nothing. -/
theorem lastPersist_sourceActions (c : Cfg) (old new : Source) (muted : Bool) :
    lastPersist .source (sourceActions c old new muted) = some (new.index : Int) ∧
    ∀ x, .persistWrite .volume x ∉ sourceActions c old new muted := by
  cases muted <;> exact ⟨rfl, by simp [sourceActions, attPair]⟩

/-- A committed level, after actions that store nothing. -/
theorem storesChanges_of_level {s t : State} {as : List Action} (hout : t.out = s.out ++ (as ++ volumeActions s.cfg t.vol))
    (has : ∀ k x, .persistWrite k x ∉ as) (hne : t.vol ≠ s.vol) (hsrc : t.src = s.src) : StoresChanges s t := by
  refine ⟨_, hout, fun k => ?_⟩
  have hsource : ∀ x, .persistWrite .source x ∉ as ++ volumeActions s.cfg t.vol := by
    simp [has, volumeActions, attPair]
  cases k with
  | volume => simp [lastPersist_append, lastPersist_volumeActions, State.stored, hne]
  | source => exact ⟨by simp [lastPersist_eq_none hsource, State.stored, hsrc], fun _ => hsource⟩

/-- A committed source, before actions that store nothing. -/
theorem storesChanges_of_source {s t : State} {as : List Action}
    (hout : t.out = s.out ++ (sourceActions s.cfg s.src t.src s.mute ++ as)) (has : ∀ k x, .persistWrite k x ∉ as)
    (hne : t.src ≠ s.src) (hvol : t.vol = s.vol) : StoresChanges s t := by
  obtain ⟨hlast, hnone⟩ := lastPersist_sourceActions s.cfg s.src t.src s.mute
  refine ⟨_, hout, fun k => ?_⟩
  have hlevel : ∀ x, .persistWrite .volume x ∉ sourceActions s.cfg s.src t.src s.mute ++ as := by simp [hnone, has]
  cases k with
  | volume => exact ⟨by simp [lastPersist_eq_none hlevel, State.stored, hvol], fun _ => hlevel⟩
  | source =>
    have hindex : (t.src.index : Int) ≠ s.src.index := fun h => hne (source_index_injective (Int.ofNat_inj.mp h))
    simp [lastPersist_append, lastPersist_eq_none (has .source), hlast, State.stored, hindex]

/-- The unmuting half of a volume step and of the play command. -/
theorem unmute_half_stores_nothing (s : State) :
    ∀ k x, .persistWrite k x ∉ if s.mute then unmuteActions s.cfg s.vol else [] := by
  cases s.mute <;> simp [unmuteActions, attPair]

theorem volumeStep_storesChanges (d : Dir) (s : State) : StoresChanges s (volumeStep d s) := by
  have hunmute := unmute_half_stores_nothing s
  rw [volumeStep_spec]
  by_cases h : clamp (s.vol + d.delta) = s.vol
  · refine .of_no_store (as := volumeStepActions d s) rfl ?_ h rfl
    simpa [volumeStepActions, h] using hunmute
  · exact storesChanges_of_level (by simp [volumeStepActions, h]) hunmute h rfl

theorem sourceChange_storesChanges (n : Source) (now : Nat) (s : State) : StoresChanges s (sourceChange n now s) := by
  rw [sourceChange_spec]
  by_cases h : n = s.src
  · exact .of_silent (by simp [h]) rfl h
  · exact storesChanges_of_source (as := []) (by simp [h]) (by simp) h rfl

theorem playCd_storesChanges (now : Nat) (s : State) : StoresChanges s (playCd now s) := by
  have hunmute := unmute_half_stores_nothing s
  rw [playCd_spec]
  by_cases h : .cd = s.src
  · exact .of_no_store (by simp [h]) hunmute rfl h
  · exact storesChanges_of_source (by simp [h]) hunmute h rfl

theorem rotary_storesChanges (d : Dir) (now : Nat) (s : State) : StoresChanges s (rotary d now s) := by
  unfold rotary
  split
  · exact volumeStep_storesChanges d s
  · exact sourceChange_storesChanges _ now s

theorem button_storesChanges (dur now : Nat) (s : State) : StoresChanges s (button dur now s) := by
  rw [button_spec]
  split <;> exact .of_silent rfl rfl rfl

theorem Move.storesChanges {s t : State} (h : Move s t) : StoresChanges s t := by
  cases h with
  | quiet h => exact .of_silent h.out h.vol h.src
  | unmute => exact unmute_storesChanges s
  | muteOn => exact .of_no_store rfl (by simp [attPair]) rfl rfl
  | level v _ _ hne => exact storesChanges_of_level (as := []) rfl (by simp) hne rfl
  | source n hne =>
    rw [commitSource_spec]
    exact storesChanges_of_source (as := []) (by simp) (by simp) hne rfl

theorem Moves.writtenThrough {s t : State} (h : Moves s t) : WrittenThrough s t :=
  h.keeps (fun m hs => hs.trans m.storesChanges.writtenThrough) (StoresChanges.of_silent rfl rfl rfl).writtenThrough

/-! ### Every instruction -/

/-- Every row but a tick and boot stores what it changes and nothing else. -/
theorem exec_storesChanges {i : Instr} {s t : State} (h : exec i s = .next t) (hboot : ∀ pv ps, i ≠ .boot pv ps)
    (htick : ∀ now rc, i ≠ .tick now rc) : StoresChanges s t := by
  cases i with
  | boot pv ps => exact absurd rfl (hboot pv ps)
  | tick now rc => exact absurd rfl (htick now rc)
  | setVolume _ _ | mute | unmute =>
    cases h
    exact .of_no_store rfl (by simp [attPair]) rfl rfl
  | setGain | setExternalClock _ | setZeroCrossing _ | setLinkChannels _
  | attL _ | attR _ | attLMute | attRMute | gain _ _ | states _ =>
    cases h
    exact .of_no_store rfl (by simp) rfl rfl
  | att _ | cbRot _ | cbBtn _ | timeout
  | rcSrc1 _ | rcSrc2 _ | rcSrc3 _ | rcSrc4 _ | rcVolUp _ | rcVolDown _ | rcMute _ | rcPlay _ | rcOther _ _ _ =>
    cases h
    exact .of_silent rfl rfl rfl
  | volUp | volDown => cases h; exact volumeStep_storesChanges _ s
  | selectSource n now => cases h; exact sourceChange_storesChanges n now s
  | toggleMute => cases h; exact toggleMute_storesChanges s
  | playCd now => cases h; exact playCd_storesChanges now s
  | rotUp now | rotDown now => cases h; exact rotary_storesChanges _ now s
  | btn dur now => cases h; exact button_storesChanges dur now s

theorem boot_appends_no_store (pv : Option Int) (ps : Option Nat) (s : State) :
    ∃ as, (boot pv ps s).out = s.out ++ as ∧ ∀ k x, .persistWrite k x ∉ as := by
  rw [boot_spec]
  exact ⟨_, by rw [List.append_assoc, List.append_assoc], by simp [attPair]⟩

/-- `WrittenThrough` of one list of actions, key by key, as O51 states it. -/
theorem changes_of_stored {s t : State} {as : List Action} (h : ∀ k, (lastPersist k as).getD (s.stored k) = t.stored k) :
    (t.vol ≠ s.vol → lastPersist .volume as = some t.vol) ∧
    (t.src ≠ s.src → lastPersist .source as = some (t.src.index : Int)) ∧
    (∀ x, lastPersist .volume as = some x → x = t.vol) ∧
    (∀ y, lastPersist .source as = some y → y = t.src.index) := by
  have hvol := h .volume
  have hsrc := h .source
  simp only [State.stored] at hvol hsrc
  refine ⟨fun hne => ?_, fun hne => ?_, fun x hx => by simpa [hx] using hvol, fun y hy => by simpa [hy] using hsrc⟩
  · cases hlast : lastPersist .volume as with
    | none => exact absurd (by simpa [hlast] using hvol.symm) hne
    | some x => simpa [hlast] using hvol
  · cases hlast : lastPersist .source as with
    | none => exact absurd (source_index_injective (by simpa [hlast] using hsrc.symm)) hne
    | some y => simpa [hlast] using hsrc

/-- Settles O51: a tick is written through as moves are; every other row but boot stores what it changes; boot stores nothing. -/
theorem changesAreWrittenThrough : Obligations.ChangesAreWrittenThrough := by
  intro i s t h
  by_cases hboot : ∃ pv ps, i = .boot pv ps
  · obtain ⟨pv, ps, rfl⟩ := hboot
    obtain ⟨-, rfl⟩ := execBoot_next.mp h
    obtain ⟨as, hout, hnone⟩ := boot_appends_no_store pv ps s
    exact ⟨as, hout, fun hne => absurd rfl (hne pv ps), fun hne => absurd rfl (hne pv ps), fun _ => hnone⟩
  · by_cases htick : ∃ now rc, i = .tick now rc
    · obtain ⟨now, rc, rfl⟩ := htick
      obtain ⟨-, -, rfl⟩ := execTick_next.mp h
      obtain ⟨as, hout, has⟩ := (tick_moves now rc s).writtenThrough
      exact ⟨as, hout, fun _ => changes_of_stored has, fun _ hne => absurd rfl (hne now rc), fun hb => absurd hb hboot⟩
    · obtain ⟨as, hout, has⟩ :=
        exec_storesChanges h (fun pv ps hi => hboot ⟨pv, ps, hi⟩) (fun now rc hi => htick ⟨now, rc, hi⟩)
      refine ⟨as, hout, fun _ => changes_of_stored fun k => (has k).1, fun _ _ => ⟨fun hvol => ?_, fun hsrc => ?_⟩,
        fun hb => absurd hb hboot⟩
      · exact (has .volume).2 hvol
      · exact (has .source).2 (congrArg (fun n => (Source.index n : Int)) hsrc)

end Sys2Proof.Machine
end

section
/-! PROOFS. The core invariant (10_state.md R42): what each list of actions does to the readings of the output trace, and that every
move keeps the outside in agreement with the registers, as boot leaves it. -/

namespace Sys2Proof.Machine

open Sys2Proof

/-! ### Readings of routing and frames -/

theorem lastRoute_append (n : Source) (out as : List Action) :
    lastRoute n (out ++ as) = as.foldl (routeWritten n) (lastRoute n out) :=
  List.foldl_append

theorem lastRoute_append_of_no_route {as : List Action} (h : ∀ n lvl, .routeWrite n lvl ∉ as) (n : Source)
    (out : List Action) : lastRoute n (out ++ as) = lastRoute n out := by
  rw [lastRoute_append]
  apply foldl_eq_self
  intro a ha
  cases a with
  | routeWrite m lvl => exact absurd ha (h m lvl)
  | frameTx _ | persistWrite _ _ | display _ | displayFlush => rfl

theorem lastFrameTo_append (c : Cfg) (sel : Word) (out as : List Action) :
    lastFrameTo c sel (out ++ as) = as.foldl (frameSentTo c sel) (lastFrameTo c sel out) :=
  List.foldl_append

theorem lastFrameTo_append_of_no_frame {as : List Action} (h : ∀ w, .frameTx w ∉ as) (c : Cfg) (sel : Word)
    (out : List Action) : lastFrameTo c sel (out ++ as) = lastFrameTo c sel out := by
  rw [lastFrameTo_append]
  apply foldl_eq_self
  intro a ha
  cases a with
  | frameTx w => exact absurd ha (h w)
  | routeWrite _ _ | persistWrite _ _ | display _ | displayFlush => rfl

/-- The select code of one of the two attenuation registers. -/
def IsAttSelect (c : Cfg) (sel : Word) : Prop := sel = c.selAttL ∨ sel = c.selAttR

/-- A pair of the same data is the last frame at both attenuation registers: the right frame is not at the left one's address. -/
theorem lastFrameTo_append_attPair {c : Cfg} (p : c.Placed) {sel data : Word} (hsel : IsAttSelect c sel)
    (hdata : data &&& c.addrMask = 0) (out : List Action) :
    lastFrameTo c sel (out ++ attPair c data data) = some (frame c sel data) := by
  have hne := p.addressParts_nodup
  have hleft := frame_and_addrMask c.selAttL_mem_selects hdata
  have hright := frame_and_addrMask c.selAttR_mem_selects hdata
  rcases hsel with rfl | rfl <;> simp_all [lastFrameTo_append, attPair, frameSentTo, eq_comm]

/-! ### Routing (I-d) -/

/-- Each line was last written as the active source says. -/
def Routed (s : State) : Prop := ∀ n, lastRoute n s.out = some (if n = s.src then .enable else .disable)

theorem Routed.of_no_route {s t : State} {as : List Action} (hs : Routed s) (hsrc : t.src = s.src)
    (hout : t.out = s.out ++ as) (has : ∀ n lvl, .routeWrite n lvl ∉ as) : Routed t := by
  intro n
  rw [hout, hsrc, lastRoute_append_of_no_route has]
  exact hs n

/-- A source commit disables the old line and enables the new one, and every other line was disabled before (R175). -/
theorem foldl_routeWritten_sourceActions (c : Cfg) {old new : Source} (muted : Bool) (n : Source) :
    (sourceActions c old new muted).foldl (routeWritten n) (some (if n = old then .enable else .disable)) =
      some (if n = new then .enable else .disable) := by
  cases muted <;> cases n <;> cases old <;> cases new <;> rfl

theorem Move.keeps_routed {s t : State} (h : Move s t) (hs : Routed s) : Routed t := by
  cases h with
  | quiet h => exact hs.of_no_route h.src (h.out.trans (List.append_nil _).symm) (by simp)
  | unmute =>
    rw [unmute_spec]
    exact hs.of_no_route rfl rfl (by simp [attPair])
  | muteOn => exact hs.of_no_route rfl rfl (by simp [attPair])
  | level v _ _ _ => exact hs.of_no_route rfl rfl (by simp [volumeActions, attPair])
  | source n _ =>
    intro m
    rw [commitSource_spec, emit_out, lastRoute_append]
    change (sourceActions s.cfg s.src n s.mute).foldl (routeWritten m) (lastRoute m s.out) = _
    rw [hs m, foldl_routeWritten_sourceActions]
    rfl

theorem boot_routed (pv : Option Int) (ps : Option Nat) (s : State) : Routed (boot pv ps s) := by
  intro n
  change lastRoute n _ = some (if n = bootSrc ps then .enable else .disable)
  rw [boot_spec]
  generalize bootSrc ps = m
  simp only [lastRoute_append, attPair, List.foldl_cons, List.foldl_nil, routeWritten]
  cases n <;> cases m <;> rfl

/-! ### Attenuation (I-e) -/

/-- The attenuation data the chip should hold: the level's, or hard mute. -/
def State.attData (s : State) : Word := if s.mute then 0 else att s.vol

/-- The last frame at both attenuation registers carries that data. -/
def Attenuated (s : State) : Prop :=
  ∀ sel, IsAttSelect s.cfg sel → lastFrameTo s.cfg sel s.out = some (frame s.cfg sel s.attData)

theorem Attenuated.of_no_frame {s t : State} {as : List Action} (hs : Attenuated s) (hdata : t.attData = s.attData)
    (hconfig : t.config = s.config) (hout : t.out = s.out ++ as) (has : ∀ w, .frameTx w ∉ as) : Attenuated t := by
  intro sel hsel
  unfold State.cfg at *
  rw [hconfig] at hsel
  rw [hconfig, hout, hdata, lastFrameTo_append_of_no_frame has]
  exact hs sel hsel

/-- After a pair of the right data and actions that send no frame, whatever was sent before. -/
theorem attenuated_of_attPair {t : State} {out as : List Action} (hout : t.out = out ++ attPair t.cfg t.attData t.attData ++ as)
    (has : ∀ w, .frameTx w ∉ as) : Attenuated t := by
  have hdata : t.attData &&& t.cfg.addrMask = 0 := by
    unfold State.attData
    split
    · exact BitVec.zero_and
    · exact t.placed.att_clear t.vol
  intro sel hsel
  rw [hout, lastFrameTo_append_of_no_frame has, lastFrameTo_append_attPair t.placed hsel hdata]

theorem Move.keeps_attenuated {s t : State} (h : Move s t) (hs : Attenuated s) : Attenuated t := by
  cases h with
  | quiet h =>
    have hdata : t.attData = s.attData := by simp [State.attData, h.mute, h.vol]
    exact hs.of_no_frame hdata h.config (h.out.trans (List.append_nil _).symm) (by simp)
  | unmute =>
    rw [unmute_spec]
    exact attenuated_of_attPair (out := s.out) (as := [.display (.showVolume s.vol), .displayFlush])
      (by simp [State.attData]) (by simp)
  | muteOn =>
    exact attenuated_of_attPair (out := s.out) (as := [.display .showMuted, .displayFlush]) (by simp [State.attData]) (by simp)
  | level v hmute _ _ =>
    exact attenuated_of_attPair (out := s.out) (as := [.persistWrite .volume v, .display (.showVolume v), .displayFlush])
      (by simp [State.attData, hmute, volumeActions]) (by simp)
  | source n _ =>
    rw [commitSource_spec]
    cases hmute : s.mute with
    | false => exact hs.of_no_frame (by simp [State.attData, hmute]) rfl rfl (by simp [sourceActions])
    | true =>
      exact attenuated_of_attPair (out := s.out ++ [.routeWrite s.src .disable, .routeWrite n .enable])
        (as := [.persistWrite .source n.index, .display (.showSource n), .display .showMuted, .displayFlush])
        (by simp [State.attData, sourceActions]) (by simp)

theorem boot_attenuated (pv : Option Int) (ps : Option Nat) (s : State) : Attenuated (boot pv ps s) := by
  rw [boot_spec]
  exact attenuated_of_attPair rfl (by simp)

/-! ### The store (I-f) -/

/-- What was stored last under a key is its register. -/
def Stored (s : State) : Prop := ∀ k x, lastPersist k s.out = some x → x = s.stored k

theorem WrittenThrough.keeps_stored {s t : State} (h : WrittenThrough s t) (hs : Stored s) : Stored t := by
  obtain ⟨as, hout, has⟩ := h
  intro k x hx
  rw [hout, lastPersist_append] at hx
  rw [← has k]
  cases hlast : lastPersist k as with
  | none => exact hs k x (by simpa [hlast] using hx)
  | some y => simpa [hlast, eq_comm] using hx

theorem boot_stored (pv : Option Int) (ps : Option Nat) {s : State} (hout : s.out = []) : Stored (boot pv ps s) := by
  obtain ⟨as, hboot, hnone⟩ := boot_appends_no_store pv ps s
  intro k x hx
  rw [hboot, hout, List.nil_append, lastPersist_eq_none (hnone k)] at hx
  cases hx

/-! ### The level and the hard-wired fields (I-a), (I-c) -/

theorem Move.keeps_levelInv {s t : State} (h : Move s t) (hs : LevelInv s) : LevelInv t := by
  obtain ⟨hlow, hhigh, hgain, hsoft⟩ := hs
  cases h with
  | quiet h => exact ⟨h.vol ▸ hlow, h.vol ▸ hhigh, h.gopt ▸ hgain, h.dopt ▸ hsoft⟩
  | unmute =>
    rw [unmute_spec]
    exact ⟨hlow, hhigh, hgain, hsoft⟩
  | muteOn => exact ⟨hlow, hhigh, hgain, hsoft⟩
  | level v _ hrange _ => exact ⟨hrange.1, hrange.2, hgain, hsoft⟩
  | source n _ =>
    rw [commitSource_spec]
    exact ⟨hlow, hhigh, hgain, hsoft⟩

theorem bootVol_range (pv : Option Int) : -447 ≤ bootVol pv ∧ bootVol pv ≤ 0 := by
  unfold bootVol
  split
  · split
    · assumption
    · decide
  · decide

theorem boot_levelInv (pv : Option Int) (ps : Option Nat) (s : State) : LevelInv (boot pv ps s) := by
  obtain ⟨hlow, hhigh⟩ := bootVol_range pv
  exact ⟨hlow, hhigh, rfl, rfl⟩

theorem KeepsApart.levelInv {s t : State} (h : KeepsApart s t) (hvol : -447 ≤ t.vol ∧ t.vol ≤ 0) (hs : LevelInv s) :
    LevelInv t :=
  ⟨hvol.1, hvol.2, h.gopt ▸ hs.gainZero, h.dopt ▸ hs.softstepZero⟩

/-- The level stays in range: an instruction keeps it, or is moves, or loads it. -/
theorem exec_keeps_vol_range {i : Instr} {s t : State} (h : exec i s = .next t) (hs : LevelInv s) :
    -447 ≤ t.vol ∧ t.vol ≤ 0 := by
  have hmoves {u : State} (hu : Moves s u) : -447 ≤ u.vol ∧ u.vol ≤ 0 :=
    have hinv := hu.keeps Move.keeps_levelInv hs
    ⟨hinv.volLow, hinv.volHigh⟩
  cases controlStep_of_exec h with
  | keeps hk => exact hk.vol ▸ ⟨hs.volLow, hs.volHigh⟩
  | app e now => exact hmoves (apply_moves e now s)
  | rotary d now => exact hmoves (rotary_moves d now s)
  | button dur now => exact hmoves (button_moves dur now s)
  | timeout => exact hmoves (timeout_moves s)
  | tick now rc => exact hmoves (tick_moves now rc s)
  | boot pv ps _ => exact bootVol_range pv

/-- The setters write no hard-wired field, and boot writes 0 to both (R30, R34). -/
theorem exec_keeps_levelInv {i : Instr} {s t : State} (h : exec i s = .next t) (hs : LevelInv s) : LevelInv t := by
  have hvol := exec_keeps_vol_range h hs
  obtain hk | ⟨b, -, rfl⟩ | ⟨b, -, rfl⟩ | ⟨b, -, rfl⟩ | ⟨pv, ps, -, rfl⟩ := exec_keepsApart_or_writer h
  · exact hk.levelInv hvol hs
  · exact ⟨hvol.1, hvol.2, hs.gainZero, hs.softstepZero⟩
  · exact ⟨hvol.1, hvol.2, hs.gainZero, hs.softstepZero⟩
  · exact ⟨hvol.1, hvol.2, hs.gainZero, hs.softstepZero⟩
  · exact boot_levelInv pv ps s

/-- Settles O58: a step rests or runs an instruction, and every instruction keeps the level in range and the hard-wired fields 0. -/
theorem everyStepKeepsTheLevelInRange : Obligations.EveryStepKeepsTheLevelInRange := by
  intro s t hs h
  obtain rfl | ⟨x, rest, i, -, -, hexec⟩ := step_next_cases h
  · exact hs
  · exact exec_keeps_levelInv hexec ⟨hs.volLow, hs.volHigh, hs.gainZero, hs.softstepZero⟩

/-! ### All of R42 -/

/-- What `Settled` says, part by part; (I-b) holds by the type of sources. -/
structure SettledParts (s : State) : Prop where
  level : LevelInv s
  routed : Routed s
  attenuated : Attenuated s
  stored : Stored s

theorem source_index_range (n : Source) : 1 ≤ n.index ∧ n.index ≤ 4 := by cases n <;> decide

theorem settled_iff_parts {s : State} : Settled s ↔ SettledParts s := by
  constructor
  · intro h
    refine ⟨⟨h.volRange.1, h.volRange.2, h.hardwired.1, h.hardwired.2⟩, h.routed, fun sel hsel => ?_, fun k => ?_⟩
    · rcases hsel with rfl | rfl
      · exact h.attenuatedL
      · exact h.attenuatedR
    · cases k with
      | volume => exact h.storedVol
      | source => exact h.storedSrc
  · intro h
    exact ⟨⟨h.level.volLow, h.level.volHigh⟩, source_index_range s.src, ⟨h.level.gainZero, h.level.softstepZero⟩, h.routed,
      h.attenuated _ (.inl rfl), h.attenuated _ (.inr rfl), h.stored .volume, h.stored .source⟩

theorem Move.keeps_settledParts {s t : State} (h : Move s t) (hs : SettledParts s) : SettledParts t :=
  ⟨h.keeps_levelInv hs.level, h.keeps_routed hs.routed, h.keeps_attenuated hs.attenuated,
    h.storesChanges.writtenThrough.keeps_stored hs.stored⟩

theorem boot_settledParts (pv : Option Int) (ps : Option Nat) {s : State} (hout : s.out = []) :
    SettledParts (boot pv ps s) :=
  ⟨boot_levelInv pv ps s, boot_routed pv ps s, boot_attenuated pv ps s, boot_stored pv ps hout⟩

/-- Settles O54: each part of R42 is kept by every move, and holds after boot. -/
theorem everyStepKeepsTheCoreInvariant : Obligations.EveryStepKeepsTheCoreInvariant := by
  intro s t hs h
  obtain ⟨hagents, hstep⟩ := agentStep_of_step hs.agentsOnly h
  obtain ⟨hsilent, hparts⟩ := hstep.keeps Move.keeps_settledParts (fun pv ps _ => boot_settledParts pv ps)
    hs.silentBeforeBoot fun hb => settled_iff_parts.mp (hs.settled hb)
  exact ⟨hagents, hsilent, fun hb => settled_iff_parts.mpr (hparts hb)⟩

end Sys2Proof.Machine
end

section
/-! PROOFS. The SourceSelect timer (43_fsm.md section 6, R187): in SourceSelect it started no later than the clock sample at hand. -/

namespace Sys2Proof.Machine

open Sys2Proof

/-- A running timer started no later than the sample `now`. -/
def TimerBy (now : Nat) (s : State) : Prop := s.mode = .sourceSelect → s.tEntry ≤ now

/-- The timer is as it was, or was started at the sample. -/
theorem TimerBy.of_tEntry {now : Nat} {s t : State} (hs : TimerBy now s) (hmode : t.mode = s.mode)
    (htimer : t.tEntry = s.tEntry ∨ t.tEntry = now) : TimerBy now t := by
  intro ht
  rcases htimer with h | h
  · exact h ▸ hs (hmode ▸ ht)
  · exact h.le

theorem sourceChange_timerBy (n : Source) {now : Nat} {s : State} (hs : TimerBy now s) :
    TimerBy now (sourceChange n now s) := by
  rw [sourceChange_spec]
  refine hs.of_tEntry rfl ?_
  by_cases h : s.mode = .sourceSelect <;> simp [h]

theorem volumeStep_timerBy (d : Dir) {now : Nat} {s : State} (hs : TimerBy now s) : TimerBy now (volumeStep d s) := by
  rw [volumeStep_spec]
  exact hs

theorem unmute_timerBy {now : Nat} {s : State} (hs : TimerBy now s) : TimerBy now (unmute s) := by
  rw [unmute_spec]
  exact hs

theorem apply_timerBy (e : AppEvent) {now : Nat} {s : State} (hs : TimerBy now s) : TimerBy now (Machine.apply e now s) := by
  cases e with
  | selectSource n => exact sourceChange_timerBy n hs
  | volumeStep d => exact volumeStep_timerBy d hs
  | toggleMute =>
    change TimerBy now (toggleMute s)
    rw [toggleMute_spec]
    split
    · exact unmute_timerBy hs
    · exact hs
  | playCd =>
    change TimerBy now (playCd now s)
    unfold playCd
    dsimp only
    split
    · exact unmute_timerBy (sourceChange_timerBy .cd hs)
    · exact sourceChange_timerBy .cd hs

theorem rotary_timerBy (d : Dir) {now : Nat} {s : State} (hs : TimerBy now s) : TimerBy now (rotary d now s) := by
  unfold rotary
  split
  · exact volumeStep_timerBy d hs
  · exact sourceChange_timerBy _ hs

/-- A press that enters SourceSelect starts the timer at the sample (R179). -/
theorem button_timerBy (dur : Nat) {now : Nat} {s : State} (hs : TimerBy now s) : TimerBy now (button dur now s) := by
  rw [button_spec]
  split
  · exact fun _ => Nat.le_refl now
  · exact hs

/-- The four phases get the same sample (D12). -/
theorem tick_timerBy (rc : Option Triple) {now : Nat} {s : State} (hs : TimerBy now s) : TimerBy now (tick now rc s) := by
  have h0 : TimerBy now (phaseTimeout now s) := by
    obtain h | h := phaseTimeout_eq_timeout_or_self now s <;> rw [h]
    · exact fun hrun => nomatch hrun
    · exact hs
  have h1 : TimerBy now (phaseRemote now rc (phaseTimeout now s)) := by
    cases rc with
    | none => exact h0
    | some r =>
      rw [phaseRemote_some]
      split
      · exact h0
      · next e _ => exact apply_timerBy e (s := track r.toggle _) h0
  have h2 : TimerBy now (phaseRotary now (phaseRemote now rc (phaseTimeout now s))) := by
    unfold phaseRotary
    split
    · exact h1
    · next d _ => exact rotary_timerBy d (s := clearRot _) h1
  unfold tick phaseButton
  split
  · exact h2
  · next dur _ => exact button_timerBy dur (s := clearBtn _) h2

/-- Settles O57: the guard of a tick is that its sample lies after a running timer's start, every phase keeps that, and the sample is
the one kept; boot ends in Run, and nothing else of the agents' moves the timer. -/
theorem everyStepKeepsTheTimer : Obligations.EveryStepKeepsTheTimer := by
  intro s t hs h
  obtain ⟨hagents, -⟩ := agentStep_of_step hs.agentsOnly h
  refine ⟨hagents, ?_⟩
  obtain rfl | ⟨x, rest, i, hin, hdec, hexec⟩ := step_next_cases h
  · exact hs.started
  · have hi := decode_eq_ok_of_isAgentInput (hs.agentsOnly x (hin ▸ .head rest)) hdec
    cases i with
    | boot pv ps =>
      obtain ⟨-, rfl⟩ := execBoot_next.mp hexec
      exact fun _ hrun => nomatch hrun
    | tick now rc =>
      obtain ⟨-, hclock, rfl⟩ := execTick_next.mp hexec
      obtain ⟨-, hby⟩ := (clockOk_iff _ now).mp hclock
      exact fun _ => tick_timerBy rc hby
    | cbRot _ | cbBtn _ =>
      cases hexec
      exact hs.started
    | _ => cases hi

/-- Settles O59: nothing is offered or sent after hardware reset, and the core is not booted. -/
theorem resetMeetsTheInvariants : Obligations.ResetMeetsTheInvariants := by
  have hagents : AgentsOnly State.reset := fun _ h => nomatch h
  exact ⟨⟨hagents, fun _ => rfl, fun h => nomatch h⟩, ⟨hagents, fun _ => rfl, fun h => nomatch h⟩, ⟨hagents, rfl⟩,
    ⟨hagents, fun h => nomatch h⟩⟩

end Sys2Proof.Machine
end

section
/-! PROOFS. The decoder and the encoder (30_encoding.md): each is the other's inverse, on frames by the layout of R81 to R87, on remote
triples by the table of R89, on operations and events by name. -/

namespace Sys2Proof

/-! ### Attenuation data (R83) -/

/-- The code of a level stands in bits [15:7]. -/
theorem att_code {v : Int} (hlow : -447 ≤ v) (hhigh : v ≤ 0) : ((att v >>> 7).toNat : Int) = 32 - v := by
  rw [BitVec.toNat_ushiftRight, Nat.shiftRight_eq_div_pow, att_toNat v hlow hhigh]
  omega

theorem att_and_low (v : Int) : att v &&& 0x7F#16 = 0 := by
  rw [and_eq_zero_iff_bits]
  intro i hi
  by_cases h : i < 7
  · rw [att_low_bits v i h, Bool.false_and]
  · have hmask : ∀ j < 16, ¬ j < 7 → (0x7F#16).getLsbD j = false := by decide
    rw [hmask i hi h, Bool.and_false]

/-- A word with bits [6:0] 0 is its upper nine bits. -/
theorem toNat_of_and_low {w : Word} (h : w &&& 0x7F#16 = 0) : w.toNat = 128 * (w >>> 7).toNat := by
  have hlow : w.toNat % 128 = 0 := by
    have hnat : w.toNat &&& (2 ^ 7 - 1) = 0 := by simpa using congrArg BitVec.toNat h
    rwa [Nat.and_two_pow_sub_one_eq_mod] at hnat
  rw [BitVec.toNat_ushiftRight, Nat.shiftRight_eq_div_pow]
  omega

/-- Data with bits [6:0] 0 and a level's code above them is that level's data. -/
theorem att_of_code {w : Word} (hlow : w &&& 0x7F#16 = 0) (hmin : 32 ≤ (w >>> 7).toNat) (hmax : (w >>> 7).toNat ≤ 479) :
    att (32 - (w >>> 7).toNat) = w := by
  apply BitVec.eq_of_toNat_eq
  rw [att_toNat _ (by omega) (by omega), toNat_of_and_low hlow]
  omega

theorem att_ne_zero {v : Int} (hlow : -447 ≤ v) (hhigh : v ≤ 0) : att v ≠ 0 := by
  intro h
  have hnat := att_toNat v hlow hhigh
  rw [h] at hnat
  simp at hnat
  omega

/-- Settles O10: the code above seven 0 bits, and the value as a number. -/
theorem attenuationLayout : Obligations.AttenuationLayout := by
  intro v hlow hhigh
  have hnat := att_toNat v hlow hhigh
  exact ⟨att_and_low v, att_code hlow hhigh, att_ne_zero hlow hhigh, by omega, by omega⟩

/-! ### The data of the four registers -/

theorem decodeAtt_zero (level : Int → Instr) (hardMute : Instr) : decodeAtt level hardMute 0 = .ok hardMute := rfl

theorem decodeAtt_att {v : Int} (hlow : -447 ≤ v) (hhigh : v ≤ 0) (level : Int → Instr) (hardMute : Instr) :
    decodeAtt level hardMute (att v) = .ok (level v) := by
  have hcode := att_code hlow hhigh
  unfold decodeAtt
  dsimp only
  rw [if_neg (att_ne_zero hlow hhigh), if_pos ⟨att_and_low v, by omega, by omega⟩]
  congr 2
  omega

/-- What decodes is hard mute or a level of the domain, by its own data. -/
theorem decodeAtt_ok {level : Int → Instr} {hardMute i : Instr} {data : Word} (h : decodeAtt level hardMute data = .ok i) :
    (i = hardMute ∧ data = 0) ∨ ∃ v, i = level v ∧ data = att v ∧ -447 ≤ v ∧ v ≤ 0 := by
  unfold decodeAtt at h
  dsimp only at h
  split at h
  · next hzero => exact .inl ⟨(Except.ok.inj h).symm, hzero⟩
  · split at h
    · next hcode =>
      obtain ⟨hlow, hmin, hmax⟩ := hcode
      exact .inr ⟨_, (Except.ok.inj h).symm, (att_of_code hlow hmin hmax).symm, by omega, by omega⟩
    · cases h

/-- Codes 1 to 31 and 480 to 511 (R93). -/
theorem decodeAtt_foreign {code : Nat} (h : (1 ≤ code ∧ code ≤ 31) ∨ (480 ≤ code ∧ code ≤ 511)) (level : Int → Instr)
    (hardMute : Instr) :
    decodeAtt level hardMute (BitVec.ofNat 16 (128 * code)) = .error .attenuationNeverProduced := by
  have hnat : (BitVec.ofNat 16 (128 * code)).toNat = 128 * code := by
    rw [BitVec.toNat_ofNat]
    omega
  have hzero : BitVec.ofNat 16 (128 * code) ≠ 0 := by
    intro hz
    rw [hz] at hnat
    simp at hnat
    omega
  have hcode : (BitVec.ofNat 16 (128 * code) >>> 7).toNat = code := by
    rw [BitVec.toNat_ushiftRight, hnat, Nat.shiftRight_eq_div_pow]
    omega
  unfold decodeAtt
  dsimp only
  rw [if_neg hzero, if_neg]
  omega

/-- The packed gain data bit by bit, its hard-wired field 0 (R32). -/
theorem packGainBits_getLsbD {c : Cfg} (p : c.Placed) (zcRaw link : Bool) (n : Nat) :
    (packGainBits c zcRaw link 0).getLsbD n = ((decide (n = c.zcBit) && zcRaw) || (decide (n = c.linkBit) && link)) := by
  have hzc := (Cfg.dataBit_iff p.zcBit).1
  have hlink := (Cfg.dataBit_iff p.linkBit).1
  by_cases hn : n < 16
  · simp [packGainBits, rawBit_getLsbD _ _ _ hn]
  · rw [BitVec.getLsbD_of_ge _ _ (by omega)]
    simp [show n ≠ c.zcBit by omega, show n ≠ c.linkBit by omega]

/-- The packed states data bit by bit, its hard-wired bit 0 (R35). -/
theorem packDevBits_getLsbD {c : Cfg} (p : c.Placed) (clkRaw : Bool) (n : Nat) :
    (packDevBits c clkRaw false).getLsbD n = (decide (n = c.clkBit) && clkRaw) := by
  have hclk := (Cfg.dataBit_iff p.clkBit).1
  by_cases hn : n < 16
  · simp [packDevBits, rawBit_getLsbD _ _ _ hn]
  · rw [BitVec.getLsbD_of_ge _ _ (by omega)]
    simp [show n ≠ c.clkBit by omega]

theorem decodeGain_packGainBits {c : Cfg} (p : c.Placed) (zcRaw link : Bool) :
    decodeGain c (packGainBits c zcRaw link 0) = .ok (.gain zcRaw link) := by
  have hzc : (packGainBits c zcRaw link 0).getLsbD c.zcBit = zcRaw := by
    rw [packGainBits_getLsbD p]
    simp [p.zcLink]
  have hlink : (packGainBits c zcRaw link 0).getLsbD c.linkBit = link := by
    rw [packGainBits_getLsbD p]
    simp [p.zcLink.symm]
  rw [decodeGain, hzc, hlink]
  exact if_pos rfl

theorem decodeStates_packDevBits {c : Cfg} (p : c.Placed) (clkRaw : Bool) :
    decodeStates c (packDevBits c clkRaw false) = .ok (.states clkRaw) := by
  have hclk : (packDevBits c clkRaw false).getLsbD c.clkBit = clkRaw := by simp [packDevBits_getLsbD p]
  simp [decodeStates, hclk]

theorem decodeGain_ok {c : Cfg} {data : Word} {i : Instr} (h : decodeGain c data = .ok i) :
    ∃ zcRaw link, i = .gain zcRaw link ∧ data = packGainBits c zcRaw link 0 := by
  unfold decodeGain at h
  dsimp only at h
  split at h
  · next hdata => exact ⟨_, _, (Except.ok.inj h).symm, hdata⟩
  · cases h

theorem decodeStates_ok {c : Cfg} {data : Word} {i : Instr} (h : decodeStates c data = .ok i) :
    ∃ clkRaw, i = .states clkRaw ∧ data = packDevBits c clkRaw false := by
  unfold decodeStates at h
  dsimp only at h
  split at h
  · next hdata => exact ⟨_, (Except.ok.inj h).symm, hdata⟩
  · cases h

/-! ### Frame words -/

/-- The decoder of a register's data, by its select code; the order is that of the four tests of `decodeWord`. -/
theorem decodeWord_attL {c : Cfg} {data : Word} (hdata : data &&& c.addrMask = 0) :
    decodeWord c (frame c c.selAttL data) = decodeAtt .attL .attLMute data := by
  simp [decodeWord, frame_and_addrMask c.selAttL_mem_selects hdata, frame_and_not_addrMask c.selAttL_mem_selects hdata]

theorem decodeWord_attR {c : Cfg} (p : c.Placed) {data : Word} (hdata : data &&& c.addrMask = 0) :
    decodeWord c (frame c c.selAttR data) = decodeAtt .attR .attRMute data := by
  have hne := p.addressParts_nodup
  simp_all [decodeWord, frame_and_addrMask c.selAttR_mem_selects hdata,
    frame_and_not_addrMask c.selAttR_mem_selects hdata, eq_comm]

theorem decodeWord_gain {c : Cfg} (p : c.Placed) {data : Word} (hdata : data &&& c.addrMask = 0) :
    decodeWord c (frame c c.selGain data) = decodeGain c data := by
  have hne := p.addressParts_nodup
  simp_all [decodeWord, frame_and_addrMask c.selGain_mem_selects hdata,
    frame_and_not_addrMask c.selGain_mem_selects hdata, eq_comm]

theorem decodeWord_states {c : Cfg} (p : c.Placed) {data : Word} (hdata : data &&& c.addrMask = 0) :
    decodeWord c (frame c c.selStates data) = decodeStates c data := by
  have hne := p.addressParts_nodup
  simp_all [decodeWord, frame_and_addrMask c.selStates_mem_selects hdata,
    frame_and_not_addrMask c.selStates_mem_selects hdata, eq_comm]

/-- A frame word decodes to the row it encodes. -/
theorem decodeWord_of_encodeWord {c : Cfg} (p : c.Placed) {i : Instr} {w : Word} (hwf : i.wf c = true)
    (h : encodeWord c i = some w) : decodeWord c w = .ok i := by
  have hzero : (0 : Word) &&& c.addrMask = 0 := BitVec.zero_and
  cases i with
  | attL v =>
    cases h
    obtain ⟨hlow, hhigh⟩ := volInDomain_iff.mp hwf
    rw [decodeWord_attL (p.att_clear v), decodeAtt_att hlow hhigh]
  | attR v =>
    cases h
    obtain ⟨hlow, hhigh⟩ := volInDomain_iff.mp hwf
    rw [decodeWord_attR p (p.att_clear v), decodeAtt_att hlow hhigh]
  | attLMute =>
    cases h
    rw [decodeWord_attL hzero, decodeAtt_zero]
  | attRMute =>
    cases h
    rw [decodeWord_attR p hzero, decodeAtt_zero]
  | gain zcRaw link =>
    cases h
    rw [decodeWord_gain p (p.packGainBits_clear zcRaw link 0), decodeGain_packGainBits p]
  | states clkRaw =>
    cases h
    rw [decodeWord_states p (p.packDevBits_clear clkRaw false), decodeStates_packDevBits p]
  | _ => cases h

/-- The two rows of an attenuation register, from a word at its address. -/
theorem encodeWord_of_decodeAtt {c : Cfg} {sel w : Word} {level : Int → Instr} {hardMute i : Instr}
    (haddr : w &&& c.addrMask = c.addressPart sel)
    (hlevel : ∀ v, encodeWord c (level v) = some (frame c sel (att v)) ∧ (level v).wf c = volInDomain v)
    (hmute : encodeWord c hardMute = some (frame c sel 0) ∧ hardMute.wf c = true)
    (h : decodeAtt level hardMute (w &&& ~~~c.addrMask) = .ok i) : encodeWord c i = some w ∧ i.wf c = true := by
  have hw := frame_of_parts c sel w haddr
  obtain ⟨rfl, hdata⟩ | ⟨v, rfl, hdata, hrange⟩ := decodeAtt_ok h <;> rw [hdata] at hw
  · exact hw ▸ hmute
  · obtain ⟨hencode, hwf⟩ := hlevel v
    exact ⟨hw ▸ hencode, hwf.trans (volInDomain_iff.mpr hrange)⟩

/-- What a word decodes to is well-formed, and encodes to that word: the address field gives its register, the rest its data. -/
theorem encodeWord_of_decodeWord {c : Cfg} {i : Instr} {w : Word} (h : decodeWord c w = .ok i) :
    encodeWord c i = some w ∧ i.wf c = true := by
  unfold decodeWord at h
  dsimp only at h
  split at h
  · next haddr => exact encodeWord_of_decodeAtt haddr (fun _ => ⟨rfl, rfl⟩) ⟨rfl, rfl⟩ h
  split at h
  · next haddr => exact encodeWord_of_decodeAtt haddr (fun _ => ⟨rfl, rfl⟩) ⟨rfl, rfl⟩ h
  split at h
  · next haddr =>
    obtain ⟨zcRaw, link, rfl, hdata⟩ := decodeGain_ok h
    exact ⟨congrArg some (hdata ▸ frame_of_parts c c.selGain w haddr), rfl⟩
  split at h
  · next haddr =>
    obtain ⟨clkRaw, rfl, hdata⟩ := decodeStates_ok h
    exact ⟨congrArg some (hdata ▸ frame_of_parts c c.selStates w haddr), rfl⟩
  · cases h

theorem decodeBytes_frameBytes (c : Cfg) (w : Word) : decodeBytes c (frameBytes w) = decodeWord c w := by
  rw [frameBytes, decodeBytes, wordOfBytes_frameBytes]

/-- Bytes that decode are the two bytes of one word. -/
theorem decodeBytes_ok {c : Cfg} {bs : List Byte} {i : Instr} (h : decodeBytes c bs = .ok i) :
    ∃ w, bs = frameBytes w ∧ decodeWord c w = .ok i := by
  unfold decodeBytes at h
  split at h
  · next hi lo => exact ⟨wordOfBytes hi lo, (frameBytes_wordOfBytes hi lo).symm, h⟩
  · cases h

theorem format_of_encodeWord {c : Cfg} {i : Instr} {w : Word} (h : encodeWord c i = some w) : i.format = .frame16 := by
  cases i with
  | attL _ | attR _ | attLMute | attRMute | gain _ _ | states _ => rfl
  | _ => cases h

/-! ### Remote triples -/

/-- The address and the command of an event's row in the table of R89. -/
def Cfg.codes (c : Cfg) : AppEvent → Nat × Nat
  | .selectSource .phono => (c.rcAddrPreamp, c.cmdSrc1)
  | .selectSource .media => (c.rcAddrPreamp, c.cmdSrc2)
  | .selectSource .cd => (c.rcAddrPreamp, c.cmdSrc3)
  | .selectSource .tuner => (c.rcAddrPreamp, c.cmdSrc4)
  | .volumeStep .up => (c.rcAddrPreamp, c.cmdVolUp)
  | .volumeStep .down => (c.rcAddrPreamp, c.cmdVolDown)
  | .toggleMute => (c.rcAddrPreamp, c.cmdMute)
  | .playCd => (c.rcAddrTransport, c.cmdPlay)

/-- A pair that classifies is that of its event's row. -/
theorem codes_of_classify {c : Cfg} {a k : Nat} {e : AppEvent} (h : classify c a k = some e) : (a, k) = c.codes e := by
  unfold classify at h
  split_ifs at h <;> cases h <;> simp_all [Cfg.codes]

theorem encodeTriple_decodeTriple (c : Cfg) (r : Triple) : encodeTriple c (decodeTriple c r) = some r := by
  obtain ⟨t, a, k⟩ := r
  cases h : classify c a k with
  | none => simp [decodeTriple, h, encodeTriple]
  | some e =>
    obtain ⟨rfl, rfl⟩ := Prod.mk.inj (codes_of_classify h)
    cases e with
    | selectSource n => cases n <;> simp [decodeTriple, h, encodeTriple]
    | volumeStep d => cases d <;> simp [decodeTriple, h, encodeTriple]
    | toggleMute | playCd => simp [decodeTriple, h, encodeTriple]

/-- A triple decodes to the row it encodes, since the codes are distinct (R8). -/
theorem decodeTriple_of_encodeTriple {c : Cfg} (hc : c.wf = true) {i : Instr} {r : Triple} (hwf : i.wf c = true)
    (h : encodeTriple c i = some r) : decodeTriple c r = i := by
  obtain ⟨haddr, hcmds⟩ := Cfg.remoteDistinct_of_wf hc
  obtain ⟨h1, h2, h3, h4, hup, hdown, hmute⟩ := classify_preamp_rows hcmds
  have hplay := classify_transport haddr
  cases i with
  | rcSrc1 _ | rcSrc2 _ | rcSrc3 _ | rcSrc4 _ | rcVolUp _ | rcVolDown _ | rcMute _ | rcPlay _ =>
    cases h
    simp [decodeTriple, h1, h2, h3, h4, hup, hdown, hmute, hplay]
  | rcOther t a k =>
    cases h
    have hnone : classify c a k = none := classify_eq_none_of_not_recognised (by simpa [Instr.wf] using hwf)
    simp [decodeTriple, hnone]
  | _ => cases h

/-! ### Everything offered -/

theorem encode_of_encodeWord {c : Cfg} {i : Instr} {w : Word} (h : encodeWord c i = some w) :
    encode c i = .bytes (frameBytes w) := by
  rw [encode, h]

theorem encode_of_encodeTriple {c : Cfg} {i : Instr} {r : Triple} (h : encodeTriple c i = some r) :
    encode c i = .triple r := by
  have hword : encodeWord c i = none := by
    cases i with
    | attL _ | attR _ | attLMute | attRMute | gain _ _ | states _ => cases h
    | _ => rfl
  rw [encode, hword, h]

/-- What has neither a word nor a triple is an operation or an event, and stands for itself (R80). -/
theorem decodeCall_of_no_encoding {c : Cfg} {i : Instr} (hword : encodeWord c i = none)
    (htriple : encodeTriple c i = none) : decodeCall i = .ok i := by
  cases i with
  | attL _ | attR _ | attLMute | attRMute | gain _ _ | states _ => cases hword
  | rcSrc1 _ | rcSrc2 _ | rcSrc3 _ | rcSrc4 _ | rcVolUp _ | rcVolDown _ | rcMute _ | rcPlay _ | rcOther _ _ _ =>
    cases htriple
  | _ => rfl

theorem encode_of_decodeCall {c : Cfg} {i j : Instr} (h : decodeCall j = .ok i) : encode c i = .call j := by
  cases j with
  | attL _ | attR _ | attLMute | attRMute | gain _ _ | states _
  | rcSrc1 _ | rcSrc2 _ | rcSrc3 _ | rcSrc4 _ | rcVolUp _ | rcVolDown _ | rcMute _ | rcPlay _ | rcOther _ _ _ =>
    cases h
  | _ =>
    cases h
    rfl

/-- Settles O1: a row with a word, a row with a triple, and a row with neither. -/
theorem decodeOfEncodeIsTheInstruction : Obligations.DecodeOfEncodeIsTheInstruction := by
  intro a i hwf
  cases hword : encodeWord a.cfg i with
  | some w =>
    rw [encode_of_encodeWord hword]
    change decodeBytes a.cfg (frameBytes w) = .ok i
    rw [decodeBytes_frameBytes, decodeWord_of_encodeWord (Cfg.placed_of_wf a.admitted) hwf hword]
  | none =>
    cases htriple : encodeTriple a.cfg i with
    | some r =>
      rw [encode_of_encodeTriple htriple]
      exact congrArg Except.ok (decodeTriple_of_encodeTriple a.admitted hwf htriple)
    | none =>
      rw [encode, hword, htriple]
      exact decodeCall_of_no_encoding hword htriple

/-- Settles O2: two bytes are those of the word they make, a triple that of its row, a call its name. -/
theorem encodeOfDecodeIsTheInput : Obligations.EncodeOfDecodeIsTheInput := by
  intro a x i h
  cases x with
  | bytes bs =>
    obtain ⟨w, rfl, hword⟩ := decodeBytes_ok h
    exact encode_of_encodeWord (encodeWord_of_decodeWord hword).1
  | triple r =>
    cases Except.ok.inj h
    exact encode_of_encodeTriple (encodeTriple_decodeTriple a.cfg r)
  | call j => exact encode_of_decodeCall h

/-- Data of a foreign code is attenuation data all the same: its bits lie above the address field. -/
theorem Cfg.Placed.code_clear {c : Cfg} (p : c.Placed) (code : Nat) : BitVec.ofNat 16 (128 * code) &&& c.addrMask = 0 := by
  have hatt : att (32 - code) = BitVec.ofNat 16 (128 * code) := by
    rw [att, ← BitVec.ofInt_natCast]
    congr 1
    push_cast
    omega
  exact hatt ▸ p.att_clear _

/-- Settles O3: bytes that decode are one word's, which decodes to the row that encodes it; at both attenuation addresses a foreign
code reaches the test of its code. -/
theorem onlyProducibleFramesDecode : Obligations.OnlyProducibleFramesDecode := by
  intro a
  have p := Cfg.placed_of_wf a.admitted
  refine ⟨fun bs i h => ?_, fun sel code hsel hcode => ?_⟩
  · obtain ⟨w, rfl, hword⟩ := decodeBytes_ok h
    obtain ⟨hencode, hwf⟩ := encodeWord_of_decodeWord hword
    exact ⟨rfl, format_of_encodeWord hencode, hwf⟩
  · change decodeBytes a.cfg (frameBytes _) = _
    rw [decodeBytes_frameBytes]
    rcases hsel with rfl | rfl
    · rw [decodeWord_attL (p.code_clear code), decodeAtt_foreign hcode]
    · rw [decodeWord_attR p (p.code_clear code), decodeAtt_foreign hcode]

/-- Settles O5, by running the decoder on the eight inputs. -/
theorem tableWordsDecode : Obligations.TableWordsDecode := by
  unfold Obligations.TableWordsDecode
  decide

end Sys2Proof
end

section
/-! PROOFS. The parts of a frame (30_encoding.md R81, R87, decision D1): no two share a bit, and the sixteen addresses differ. -/

namespace Sys2Proof

/-- The frame bits of a chip address. -/
def Cfg.chipAddress (c : Cfg) (d : BitVec 2) : Word := d.setWidth 16 <<< c.caLsb

/-- Of two words inside masks that share no bit, a mask takes its own. -/
theorem or_and_of_masks {x y m n : Word} (hx : ∀ i, x.getLsbD i = true → m.getLsbD i = true)
    (hy : ∀ i, y.getLsbD i = true → n.getLsbD i = true) (h : m &&& n = 0) : (x ||| y) &&& m = x := by
  apply BitVec.eq_of_getLsbD_eq
  intro i hi
  have hclear := and_eq_zero_iff_bits.mp h i hi
  have hxi := hx i
  have hyi := hy i
  rw [BitVec.getLsbD_and, BitVec.getLsbD_or]
  cases hm : m.getLsbD i <;> simp_all

/-- The select mask and the chip mask share no bit, so each takes its own half of an address (R7 (2)). -/
theorem Cfg.Placed.address_halves {c : Cfg} (p : c.Placed) {x : Word} (hx : x ∈ c.selects) (d : BitVec 2) :
    (x ||| c.chipAddress d) &&& c.selMask = x ∧ (x ||| c.chipAddress d) &&& c.caMask = c.chipAddress d := by
  have hsel := c.select_in_selMask hx
  have hchip : ∀ i, (c.chipAddress d).getLsbD i = true → c.caMask.getLsbD i = true := c.chip_in_caMask d
  refine ⟨or_and_of_masks hsel hchip p.clear, ?_⟩
  rw [BitVec.or_comm]
  exact or_and_of_masks hchip hsel (BitVec.and_comm .. ▸ p.clear)

/-- The two bits of a chip address stand inside the word (`CA_LSB` is at most 5). -/
theorem Cfg.Placed.chipAddress_injective {c : Cfg} (p : c.Placed) : Function.Injective c.chipAddress := by
  intro d e h
  apply BitVec.eq_of_getLsbD_eq
  intro i hi
  have hlsb := p.caLsb
  have hbit := congrArg (fun w : Word => w.getLsbD (i + c.caLsb)) h
  simpa [Cfg.chipAddress, show i + c.caLsb < 16 by omega, show i < 16 by omega] using hbit

/-- Settles O6: bits of the data lie outside the address mask, those of a select code and of a chip address inside their own masks. -/
theorem partsOfAFrameShareNoBit : Obligations.PartsOfAFrameShareNoBit := by
  intro a sels
  have p := Cfg.placed_of_wf a.admitted
  refine ⟨p.att_clear, Machine.packGain_clear p, Machine.packDev_clear p, fun sel hsel => ⟨p.select_clear_of_chip hsel,
    fun data hdata => ⟨frame_and_addrMask hsel hdata, frame_and_not_addrMask hsel hdata⟩⟩, fun x hx y hy d e h => ?_⟩
  change x ||| a.cfg.chipAddress d = y ||| a.cfg.chipAddress e at h
  obtain ⟨hxsel, hxchip⟩ := p.address_halves hx d
  obtain ⟨hysel, hychip⟩ := p.address_halves hy e
  rw [h] at hxsel hxchip
  exact ⟨hxsel.symm.trans hysel, p.chipAddress_injective (hxchip.symm.trans hychip)⟩

/-- Settles O19: with the hard-wired fields 0 the packed registers are those of the option bits. -/
theorem optionBitsStandAtTheirPositions : Obligations.OptionBitsStandAtTheirPositions := by
  intro a g d n hgain hsoft
  have p := Cfg.placed_of_wf a.admitted
  rw [Machine.packGain, Machine.packDev, hgain, hsoft]
  exact ⟨packGainBits_getLsbD p g.zcRaw g.link n, packDevBits_getLsbD p d.clkRaw n⟩

end Sys2Proof
end

section
/-! PROOFS. The two cells in a tick (42_aggregator.md section 3): no phase looks at a cell that is not its own, so a callback commutes
with every phase but its cell's take, and the knob's phase looks at the sign of its cell only. -/

namespace Sys2Proof.Machine

open Sys2Proof

/-! ### Handlers do not look at the cells -/

/-- The state with these contents of the two cells. -/
def State.withCells (rot : Int) (btn : Option Nat) (s : State) : State := { s with rot := rot, btn := btn }

section
variable (r : Int) (b : Option Nat) (s : State)

theorem volumeStep_withCells (d : Dir) : volumeStep d (s.withCells r b) = (volumeStep d s).withCells r b := by
  rw [volumeStep_spec, volumeStep_spec]
  rfl

theorem sourceChange_withCells (n : Source) (now : Nat) :
    sourceChange n now (s.withCells r b) = (sourceChange n now s).withCells r b := by
  rw [sourceChange_spec, sourceChange_spec]
  rfl

theorem toggleMute_withCells : toggleMute (s.withCells r b) = (toggleMute s).withCells r b := by
  rw [toggleMute_spec, toggleMute_spec, apply_ite (State.withCells r b), unmute_spec, unmute_spec]
  rfl

theorem playCd_withCells (now : Nat) : playCd now (s.withCells r b) = (playCd now s).withCells r b := by
  rw [playCd_spec, playCd_spec]
  rfl

theorem apply_withCells (e : AppEvent) (now : Nat) :
    Machine.apply e now (s.withCells r b) = (Machine.apply e now s).withCells r b := by
  cases e with
  | selectSource n => exact sourceChange_withCells r b s n now
  | volumeStep d => exact volumeStep_withCells r b s d
  | toggleMute => exact toggleMute_withCells r b s
  | playCd => exact playCd_withCells r b s now

theorem rotary_withCells (d : Dir) (now : Nat) : rotary d now (s.withCells r b) = (rotary d now s).withCells r b := by
  cases hmode : s.mode with
  | run =>
    rw [rotary_of_run d now hmode, rotary_of_run d now (s := s.withCells r b) hmode]
    exact volumeStep_withCells r b s d
  | sourceSelect =>
    rw [rotary_of_sourceSelect d now hmode, rotary_of_sourceSelect d now (s := s.withCells r b) hmode]
    exact sourceChange_withCells r b s _ now

theorem button_withCells (dur now : Nat) : button dur now (s.withCells r b) = (button dur now s).withCells r b := by
  rw [button_spec, button_spec, apply_ite (State.withCells r b)]
  rfl

/-! ### Phases look at no cell but their own -/

theorem phaseTimeout_withCells (now : Nat) : phaseTimeout now (s.withCells r b) = (phaseTimeout now s).withCells r b := by
  rw [phaseTimeout_spec, phaseTimeout_spec, apply_ite (State.withCells r b)]
  rfl

theorem phaseRemote_withCells (now : Nat) (rc : Option Triple) :
    phaseRemote now rc (s.withCells r b) = (phaseRemote now rc s).withCells r b := by
  cases rc with
  | none => rfl
  | some t =>
    have hdedup : dedupEvent t.toggle (classify (s.withCells r b).cfg t.addr t.cmd) (s.withCells r b) =
        dedupEvent t.toggle (classify s.cfg t.addr t.cmd) s := rfl
    rw [phaseRemote_some, phaseRemote_some, hdedup]
    split
    · rfl
    · next e _ => exact apply_withCells r b (track t.toggle s) e now

end

/-- The knob's phase keeps a press that is put in. -/
theorem phaseRotary_press (now dur : Nat) (s : State) :
    phaseRotary now { s with btn := some dur } = { phaseRotary now s with btn := some dur } := by
  unfold phaseRotary
  dsimp only
  split
  · rfl
  · next d _ =>
    change rotary d now ((clearRot s).withCells (clearRot s).rot (some dur)) =
      (rotary d now (clearRot s)).withCells (rotary d now (clearRot s)).rot (some dur)
    rw [rotary_withCells, (rotary_keeps d now (clearRot s)).rot]

/-- The button phase keeps a turn that is put in. -/
theorem phaseButton_turn (now : Nat) (r : Int) (s : State) :
    phaseButton now { s with rot := r } = { phaseButton now s with rot := r } := by
  unfold phaseButton
  dsimp only
  split
  · rfl
  · next dur _ =>
    change button dur now ((clearBtn s).withCells r (clearBtn s).btn) =
      (button dur now (clearBtn s)).withCells r (button dur now (clearBtn s)).btn
    rw [button_withCells, button_btn]

/-- Settles O33: each phase that does not take a cell neither reads nor writes it. -/
theorem callbacksCommuteWithPhases : Obligations.CallbacksCommuteWithPhases := by
  intro s now rc d dur turn press
  have hturn (x : State) : turn x = x.withCells (x.rot + d) x.btn := rfl
  have hpress (x : State) : press x = x.withCells x.rot (some dur) := rfl
  obtain ⟨hrot, hbtn⟩ := phaseRemote_cells now rc s
  refine ⟨?_, ?_, ?_, ?_, ?_, phaseRotary_press now dur s, rfl⟩
  · rw [hturn, hturn, phaseTimeout_withCells, phaseTimeout_rot, phaseTimeout_btn]
  · rw [hturn, hturn, phaseRemote_withCells, hrot, hbtn]
  · change phaseButton now { s with rot := s.rot + d } = { phaseButton now s with rot := (phaseButton now s).rot + d }
    rw [phaseButton_turn, phaseButton_rot]
  · rw [hpress, hpress, phaseTimeout_withCells, phaseTimeout_rot]
  · rw [hpress, hpress, phaseRemote_withCells, hrot]

/-! ### The sign of the turn (R158) -/

/-- The knob's phase takes its cell whole and uses the sign of what it took. -/
theorem phaseRotary_of_signDir_eq (now : Nat) {d e : Int} (h : signDir d = signDir e) (b : Option Nat) (s : State) :
    phaseRotary now (s.withCells d b) = phaseRotary now (s.withCells e b) := by
  have hclear : clearRot (s.withCells d b) = clearRot (s.withCells e b) := rfl
  have hsign : signDir (s.withCells d b).rot = signDir (s.withCells e b).rot := h
  rw [phaseRotary, phaseRotary, hsign, hclear]

theorem tick_of_signDir_eq (now : Nat) (rc : Option Triple) {d e : Int} (h : signDir d = signDir e) (b : Option Nat)
    (s : State) : tick now rc (s.withCells d b) = tick now rc (s.withCells e b) := by
  simp only [tick, phaseTimeout_withCells, phaseRemote_withCells, phaseRotary_of_signDir_eq now h]

theorem signDir_eq_of_same_sign {d e : Int} (h : (0 < d ∧ 0 < e) ∨ (d < 0 ∧ e < 0)) : signDir d = signDir e := by
  unfold signDir
  rcases h with ⟨hd, he⟩ | ⟨hd, he⟩
  · rw [if_pos hd, if_pos he]
  · rw [if_neg (by omega), if_pos hd, if_neg (by omega), if_pos he]

/-- Settles O32: the takes empty the cells, and the guard of the tick does not read them. -/
theorem tickEmptiesTheCellsAndDropsTheMagnitude : Obligations.TickEmptiesTheCellsAndDropsTheMagnitude := by
  refine ⟨fun now rc s t h => execTick_next_cells h, fun now rc s d e h => ?_⟩
  have htick := tick_of_signDir_eq now rc (signDir_eq_of_same_sign h) s.btn s
  change execTick now rc (s.withCells d s.btn) = execTick now rc (s.withCells e s.btn)
  rw [execTick, execTick, htick]
  rfl

end Sys2Proof.Machine
end

section
/-! PROOFS. The tick (42_aggregator.md R150, R151): its guard, its phases as instructions, and the tick with nothing to do. -/

namespace Sys2Proof.Machine

open Sys2Proof

/-! ### The guard -/

/-- A booted core takes a tick whose clock sample meets H-2. -/
theorem exec_tick_of_legal {now : Nat} (rc : Option Triple) {s : State} (hbooted : s.booted = true) (hnow : s.lastNow ≤ now)
    (htimer : s.mode = .sourceSelect → s.tEntry ≤ now) : exec (.tick now rc) s = .next { tick now rc s with lastNow := now } :=
  execTick_next.mpr ⟨hbooted, (clockOk_iff s now).mpr ⟨hnow, htimer⟩, rfl⟩

theorem exec_tick_before_boot (now : Nat) (rc : Option Triple) {s : State} (hbooted : s.booted = false) :
    exec (.tick now rc) s = .refused .tickBeforeBoot := by
  simp [exec, execTick, hbooted]

theorem exec_tick_clock_back {now : Nat} (rc : Option Triple) {s : State} (hbooted : s.booted = true)
    (h : now < s.lastNow ∨ (s.mode = .sourceSelect ∧ now < s.tEntry)) :
    exec (.tick now rc) s = .refused .clockRanBackwards := by
  have hclock : ¬ clockOk s now = true := by
    rw [clockOk_iff]
    rintro ⟨hnow, htimer⟩
    rcases h with h | ⟨hmode, h⟩
    · omega
    · have := htimer hmode
      omega
  simp [exec, execTick, hbooted, hclock]

theorem exec_boot_twice (pv : Option Int) (ps : Option Nat) {s : State} (hbooted : s.booted = true) :
    exec (.boot pv ps) s = .refused .bootTwice := by
  simp [exec, execBoot, hbooted]

theorem exec_boot (pv : Option Int) (ps : Option Nat) {s : State} (hbooted : s.booted = false) :
    exec (.boot pv ps) s = .next (boot pv ps s) :=
  execBoot_next.mpr ⟨hbooted, rfl⟩

/-- Settles O28: the two guards, each way. -/
theorem tickAndBootRefusals : Obligations.TickAndBootRefusals := by
  intro now rc pv ps s
  exact ⟨exec_tick_before_boot now rc, exec_tick_clock_back rc, fun hbooted hnow htimer =>
    ⟨_, exec_tick_of_legal rc hbooted hnow htimer⟩, exec_boot_twice pv ps, fun hbooted => ⟨_, exec_boot pv ps hbooted⟩⟩

/-- Settles O44: the fields of the reset state, and the tick's first guard. -/
theorem hardwareReset : Obligations.HardwareReset :=
  ⟨rfl, rfl, rfl, rfl, rfl, rfl, fun now rc => exec_tick_before_boot now rc rfl⟩

/-! ### The phases as instructions -/

theorem exec_appInstr (e : AppEvent) (now : Nat) (s : State) :
    exec (appInstr e now) s = .next (Machine.apply e now s) := by
  cases e with
  | volumeStep d => cases d <;> rfl
  | selectSource _ | toggleMute | playCd => rfl

theorem exec_btn (dur now : Nat) (s : State) : exec (.btn dur now) s = .next (button dur now s) := rfl

/-- The timeout test runs `Timeout` when it is due. -/
theorem phaseTimeout_is_instr (now : Nat) (s : State) :
    if s.mode = .sourceSelect ∧ 5000 ≤ now - s.tEntry then exec .timeout s = .next (phaseTimeout now s)
    else phaseTimeout now s = s := by
  rw [phaseTimeout_spec]
  split <;> rfl

theorem phaseRemote_of_no_event (now : Nat) {r : Triple} {s : State}
    (h : dedupEvent r.toggle (classify s.cfg r.addr r.cmd) s = none) : phaseRemote now (some r) s = track r.toggle s := by
  rw [phaseRemote_some, h]

theorem phaseRemote_of_event (now : Nat) {r : Triple} {s : State} {e : AppEvent}
    (h : dedupEvent r.toggle (classify s.cfg r.addr r.cmd) s = some e) :
    phaseRemote now (some r) s = Machine.apply e now (track r.toggle s) := by
  rw [phaseRemote_some, h]

/-- The knob's phase runs the instruction of the sign of what it took. -/
theorem phaseRotary_is_instr (now : Nat) (s : State) :
    if 0 < s.rot then exec (.rotUp now) { s with rot := 0 } = .next (phaseRotary now s)
    else if s.rot < 0 then exec (.rotDown now) { s with rot := 0 } = .next (phaseRotary now s)
    else phaseRotary now s = s := by
  split
  · next hup =>
    rw [phaseRotary_up now s hup]
    exact exec_rotInstr .up now (clearRot s)
  · split
    · next hdown =>
      rw [phaseRotary_down now s hdown]
      exact exec_rotInstr .down now (clearRot s)
    · exact phaseRotary_zero now s (by omega)

/-- Settles O26: the four intermediate states are the phases' results, each phase an instruction or nothing. -/
theorem tickIsItsPhases : Obligations.TickIsItsPhases := by
  intro now rc s hbooted hnow htimer
  refine ⟨phaseTimeout now s, phaseRemote now rc (phaseTimeout now s), _, _, phaseTimeout_is_instr now s, ?_,
    phaseRotary_is_instr now _, ?_, exec_tick_of_legal rc hbooted hnow htimer⟩
  · cases rc with
    | none => rfl
    | some r =>
      dsimp only
      split
      · next h => exact phaseRemote_of_no_event now h
      · next e h =>
        rw [phaseRemote_of_event now h]
        exact exec_appInstr e now (track r.toggle _)
  · split
    · next h => exact phaseButton_none now _ h
    · next dur h =>
      rw [tick, phaseButton_some now dur _ h]
      exact exec_btn dur now (clearBtn _)

/-- Settles O29: each of the four phases finds nothing to do. -/
theorem emptyTickChangesNothing : Obligations.EmptyTickChangesNothing := by
  intro now s hbooted hnow htimer hrot hbtn hdue
  have h0 : phaseTimeout now s = s := by
    rw [phaseTimeout_spec, if_neg]
    rintro ⟨hmode, hle⟩
    have := hdue hmode
    omega
  have htick : tick now none s = s := by
    rw [tick, h0, show phaseRemote now none s = s from rfl, phaseRotary_zero now s hrot, phaseButton_none now s hbtn]
  rw [exec_tick_of_legal none hbooted hnow htimer, htick]

end Sys2Proof.Machine
end

section
/-! PROOFS. The encoder's operations again (40_encoder.md sections 2 to 4): the attenuation row, the hard mute, the link bit, and what
a second identical operation does. -/

namespace Sys2Proof.Machine

open Sys2Proof

theorem exec_att (v : Int) (s : State) : exec (.att v) s = .next { s with ret := .word (att v) } := rfl

/-- Settles O9, by the row's one equation. -/
theorem attHandsBackItsValue : Obligations.AttHandsBackItsValue := exec_att

/-- Settles O12: the hard-mute frames are the bare address parts. -/
theorem muteSendsTheHardMutePair : Obligations.MuteSendsTheHardMutePair := by
  intro s
  rw [exec_mute, attPair, frame_zero, frame_zero]
  rfl

/-- Settles O16: the store of the link bit, then the frame of the new shadow. -/
theorem setLinkChannelsStoresAndSends : Obligations.SetLinkChannelsStoresAndSends :=
  fun b s => ⟨⟨s.gopt.zcRaw, b, s.gopt.gain⟩, rfl, rfl, rfl, exec_setLinkChannels b s⟩

/-- Settles O18: the store of an operation is the same the second time, and the frames depend on the shadows it leaves. -/
theorem repeatingAnOperationRepeatsItsFrames : Obligations.RepeatingAnOperationRepeatsItsFrames := by
  intro i s t u hop ht hu
  cases i with
  | att v =>
    cases ht
    cases hu
    exact ⟨rfl, rfl, [], (List.append_nil _).symm, (List.append_nil _).symm⟩
  | setVolume _ _ | mute | setGain | setExternalClock _ | setZeroCrossing _ | setLinkChannels _ | unmute =>
    cases ht
    cases hu
    exact ⟨rfl, rfl, _, rfl, rfl⟩
  | _ => cases hop

end Sys2Proof.Machine
end

section
/-! PROOFS. The remote rows (41_remote_dedup.md section 2), and a held key: with one triple repeated, the tracker holds its toggle bit
from the first on. -/

namespace Sys2Proof.Machine

open Sys2Proof

/-! ### The rows -/

theorem dedup_of_oneShot {e : AppEvent} (h : ∀ d, e ≠ .volumeStep d) (t : Bool) (s : State) :
    dedup t (some e) s = { s with tgl := some t, ret := .event (if s.tgl = some t then none else some e) } := by
  rw [dedup, dedupEvent_oneShot h]
  rfl

theorem dedup_of_volumeStep (d : Dir) (t : Bool) (s : State) :
    dedup t (some (.volumeStep d)) s = { s with tgl := some t, ret := .event (some (.volumeStep d)) } := by
  rw [dedup, dedupEvent_volumeStep]
  rfl

/-- Settles O23: each row is the deduplicator on its own event, six of them one-shot, two volume steps. -/
theorem remoteRowsReturnTheirEvent : Obligations.RemoteRowsReturnTheirEvent := by
  intro t s
  have hone {e : AppEvent} (h : ∀ d, e ≠ .volumeStep d) := congrArg (Host.Outcome.next : State → Result) (dedup_of_oneShot h t s)
  have hvol (d : Dir) := congrArg (Host.Outcome.next : State → Result) (dedup_of_volumeStep d t s)
  exact ⟨hone nofun, hone nofun, hone nofun, hone nofun, hvol .up, hvol .down, hone nofun, hone nofun⟩

theorem exec_rcOther (t : Bool) (a k : Nat) (s : State) :
    exec (.rcOther t a k) s = .next (dedup t (classify s.cfg a k) s) := rfl

/-- The row of a triple is the deduplicator on the event its pair classifies to (R133). -/
theorem exec_decodeTriple (r : Triple) (s : State) :
    exec (decodeTriple s.cfg r) s = .next (dedup r.toggle (classify s.cfg r.addr r.cmd) s) := by
  cases h : classify s.cfg r.addr r.cmd with
  | none =>
    simp only [decodeTriple, h]
    rw [exec_rcOther, h]
  | some e =>
    cases e with
    | selectSource n => cases n <;> simp only [decodeTriple, h] <;> rfl
    | volumeStep d => cases d <;> simp only [decodeTriple, h] <;> rfl
    | toggleMute | playCd => simp only [decodeTriple, h]; rfl

/-- Settles O24: `RC_OTHER` is the deduplicator on its pair, as that pair's own row is. -/
theorem unrecognisedRowReturnsNothing : Obligations.UnrecognisedRowReturnsNothing := by
  intro t a k s
  refine ⟨fun h => ?_, fun _ => ?_⟩
  · rw [exec_rcOther, classify_eq_none_of_not_recognised h]
    rfl
  · rw [exec_rcOther, exec_decodeTriple]

/-! ### A held key -/

theorem dedupEvents_replicate_none (n : Nat) {r : Triple} {s : State} (h : classify s.cfg r.addr r.cmd = none) :
    dedupEvents (List.replicate n r) s = [] := by
  induction n generalizing s with
  | zero => rfl
  | succ n ih =>
    rw [List.replicate_succ, dedupEvents, h, dedupEvent_none, ih (s := track r.toggle s) h]
    rfl

theorem dedupEvents_replicate_volumeStep (n : Nat) {r : Triple} {s : State} {d : Dir}
    (h : classify s.cfg r.addr r.cmd = some (.volumeStep d)) :
    dedupEvents (List.replicate n r) s = List.replicate n (.volumeStep d) := by
  induction n generalizing s with
  | zero => rfl
  | succ n ih =>
    rw [List.replicate_succ, dedupEvents, h, dedupEvent_volumeStep, ih (s := track r.toggle s) h]
    rfl

/-- A one-shot key whose toggle bit was seen last stays silent. -/
theorem dedupEvents_replicate_seen (n : Nat) {r : Triple} {s : State} {e : AppEvent} (he : ∀ d, e ≠ .volumeStep d)
    (h : classify s.cfg r.addr r.cmd = some e) (hseen : s.tgl = some r.toggle) :
    dedupEvents (List.replicate n r) s = [] := by
  induction n generalizing s with
  | zero => rfl
  | succ n ih =>
    rw [List.replicate_succ, dedupEvents, h, dedupEvent_oneShot he, if_pos hseen,
      ih (s := track r.toggle s) h (track_tgl r.toggle s)]
    rfl

theorem dedupEvents_replicate_oneShot (n : Nat) {r : Triple} {s : State} {e : AppEvent} (he : ∀ d, e ≠ .volumeStep d)
    (h : classify s.cfg r.addr r.cmd = some e) :
    dedupEvents (List.replicate n r) s = if s.tgl = some r.toggle then [] else List.replicate (min n 1) e := by
  split
  · next hseen => exact dedupEvents_replicate_seen n he h hseen
  · next hnew =>
    cases n with
    | zero => rfl
    | succ n =>
      rw [List.replicate_succ, dedupEvents, h, dedupEvent_oneShot he, if_neg hnew,
        dedupEvents_replicate_seen n he (s := track r.toggle s) h (track_tgl r.toggle s), Nat.min_eq_right (by omega)]
      rfl

/-- Settles O25: by the class of the command. -/
theorem heldKeyEvents : Obligations.HeldKeyEvents := by
  intro n r s
  split
  · next h => exact dedupEvents_replicate_none n h
  · next d h => exact dedupEvents_replicate_volumeStep n h
  · next e he h => exact dedupEvents_replicate_oneShot n he h

end Sys2Proof.Machine
end

section
/-! PROOFS. The rows of the state machine in closed form (43_fsm.md sections 2 to 5): volume steps, source selection, the press, and
the play command; and which of all instructions change the mode. -/

namespace Sys2Proof.Machine

open Sys2Proof

/-! ### Volume steps (R172, R173) -/

theorem exec_volUp (s : State) : exec .volUp s = .next (volumeStep .up s) := rfl

theorem exec_volDown (s : State) : exec .volDown s = .next (volumeStep .down s) := rfl

theorem clamp_of_mem {x : Int} (hlow : -447 ≤ x) (hhigh : x ≤ 0) : clamp x = x := by
  unfold clamp volMin volMax
  omega

/-- An unmuted step to another level of the domain. -/
theorem volumeStep_commits {d : Dir} {s : State} (hmute : s.mute = false) (hlow : -447 ≤ s.vol + d.delta)
    (hhigh : s.vol + d.delta ≤ 0) :
    volumeStep d s = emit (volumeActions s.cfg (s.vol + d.delta)) { s with vol := s.vol + d.delta } := by
  have hne : s.vol + d.delta ≠ s.vol := by cases d <;> simp [Dir.delta]
  rw [volumeStep_unmuted d s hmute, commitVolume_spec, clamp_of_mem hlow hhigh, if_neg hne]

/-- An unmuted step at the boundary in its direction (D21). -/
theorem volumeStep_at_bound {d : Dir} {s : State} (hmute : s.mute = false) (h : clamp (s.vol + d.delta) = s.vol) :
    volumeStep d s = s := by
  rw [volumeStep_unmuted d s hmute, h, commitVolume_same]

/-- Settles O34: inside the domain a step commits the next level, at the boundary the clamp gives the level back. -/
theorem volumeStepUnmuted : Obligations.VolumeStepUnmuted := by
  intro s hinv hmute stepped
  have hlow := hinv.volLow
  have hhigh := hinv.volHigh
  refine ⟨fun h => ?_, fun h => ?_, fun h => ?_, fun h => ?_⟩
  · rw [exec_volUp, volumeStep_commits hmute (by simp only [Dir.delta]; omega) (by simp only [Dir.delta]; omega)]
    rfl
  · rw [exec_volUp, volumeStep_at_bound hmute (by rw [h]; decide)]
  · rw [exec_volDown, volumeStep_commits hmute (by simp only [Dir.delta]; omega) (by simp only [Dir.delta]; omega)]
    rfl
  · rw [exec_volDown, volumeStep_at_bound hmute (by rw [h]; decide)]

theorem unmute_eq (s : State) : unmute s = { s with
    mute := false
    out := s.out ++ [.frameTx (frame s.cfg s.cfg.selAttL (att s.vol)),
      .frameTx (frame s.cfg s.cfg.selAttR (att s.vol)), .display (.showVolume s.vol), .displayFlush] } :=
  unmute_spec s

/-- Settles O35: a muted step is the step from the unmuted state. -/
theorem volumeStepFirstUnmutes : Obligations.VolumeStepFirstUnmutes := by
  intro s i hmute hi
  rw [← unmute_eq]
  rcases hi with rfl | rfl
  · rw [exec_volUp, volumeStep_muted .up s hmute, exec_volUp]
  · rw [exec_volDown, volumeStep_muted .down s hmute, exec_volDown]

/-- What a volume step does to the registers, from every state. -/
theorem volumeStep_registers (d : Dir) (s : State) :
    (volumeStep d s).vol = max (-447) (min 0 (s.vol + d.delta)) ∧ (volumeStep d s).mute = false ∧
      (volumeStep d s).mode = s.mode ∧ (volumeStep d s).tEntry = s.tEntry ∧ (volumeStep d s).src = s.src := by
  rw [volumeStep_spec]
  exact ⟨rfl, rfl, rfl, rfl, rfl⟩

/-- Settles O36: the closed form of a step, at both directions. -/
theorem volumeStepsClampNeverWrap : Obligations.VolumeStepsClampNeverWrap :=
  fun s => ⟨⟨_, exec_volUp s, volumeStep_registers .up s⟩, ⟨_, exec_volDown s, volumeStep_registers .down s⟩⟩

/-! ### Source selection and the play command (R175, R176, R183) -/

theorem exec_selectSource (n : Source) (now : Nat) (s : State) :
    exec (.selectSource n now) s = .next (sourceChange n now s) := rfl

/-- Settles O38: the closed form of a source change, the hard-mute frames as bare address parts. -/
theorem selectSourceCommitsAndRearms : Obligations.SelectSourceCommitsAndRearms := by
  intro n now s
  refine ⟨fun hne => ?_, fun heq => ?_⟩
  · rw [exec_selectSource, sourceChange_spec, if_neg hne, sourceActions, attPair, frame_zero, frame_zero]
    simp only [List.append_assoc]
    rfl
  · subst heq
    rw [exec_selectSource, sourceChange_spec, if_pos rfl, List.append_nil]

/-- Settles O43: `PlayCD` is the two handlers in turn, and its closed form gives the registers. -/
theorem playCdSelectsThenUnmutes : Obligations.PlayCdSelectsThenUnmutes := by
  intro now s
  refine ⟨sourceChange .cd now s, playCd now s, exec_selectSource .cd now s, ?_, rfl, ?_⟩
  · have hmute := sourceChange_mute .cd now s
    unfold playCd
    dsimp only
    rw [exec_toggleMute, toggleMute_spec, hmute]
    split <;> rfl
  · rw [playCd_spec]
    exact ⟨rfl, rfl, rfl, rfl⟩

/-! ### The press (R179) and the mode -/

/-- Settles O40: the two sides of the guard. -/
theorem buttonEntersSourceSelect : Obligations.ButtonEntersSourceSelect := by
  intro dur now s
  refine ⟨fun h => ?_, fun h => ?_⟩
  · rw [exec_btn, button_spec, if_pos h]
  · rw [exec_btn, button_spec, if_neg]
    rintro ⟨hrun, hlong⟩
    rcases h with hmode | hshort
    · exact absurd (hrun.symm.trans hmode) (by decide)
    · omega

theorem press_of_button_changes_mode {dur now : Nat} {s : State} (h : (button dur now s).mode ≠ s.mode) :
    s.mode = .run ∧ 50 < dur ∧ (button dur now s).tEntry = now := by
  rw [button_spec] at h ⊢
  split at h
  · next hpress =>
    rw [if_pos hpress]
    exact ⟨hpress.1, hpress.2, rfl⟩
  · exact absurd rfl h

/-- After the timeout test only a pending press changes the mode. -/
theorem press_of_tick_enters {now : Nat} {rc : Option Triple} {s : State} (hrun : s.mode = .run)
    (h : (tick now rc s).mode ≠ .run) : ∃ dur, s.btn = some dur ∧ 50 < dur ∧ (tick now rc s).tEntry = now := by
  have h0 : (phaseTimeout now s).mode = .run := (phaseTimeout_mode_run_iff now s).mpr (.inl hrun)
  cases hbtn : s.btn with
  | none => exact absurd ((tick_mode_of_btn_none now rc hbtn).trans h0) h
  | some dur =>
    have hpending : (phaseRotary now (phaseRemote now rc (phaseTimeout now s))).btn = some dur := by
      rw [phaseRotary_btn, (phaseRemote_cells now rc _).2, phaseTimeout_btn, hbtn]
    rw [tick, phaseButton_some now dur _ hpending] at h ⊢
    have hbefore : (clearBtn (phaseRotary now (phaseRemote now rc (phaseTimeout now s)))).mode = .run :=
      (phaseRotary_phaseRemote_mode now rc _).trans h0
    obtain ⟨-, hlong, htimer⟩ := press_of_button_changes_mode (fun heq => h (heq.trans hbefore))
    exact ⟨dur, rfl, hlong, htimer⟩

theorem mode_eq_sourceSelect {m : Mode} (h : m ≠ .run) : m = .sourceSelect := by
  cases m with
  | run => exact absurd rfl h
  | sourceSelect => rfl

/-- Settles O50: the application events and the knob keep the mode; a press can enter SourceSelect, the timeout leave it; a tick does
what its timeout test and its press do. -/
theorem onlyTheseChangeTheMode : Obligations.OnlyTheseChangeTheMode := by
  intro i s t h hchanged
  cases controlStep_of_exec h with
  | keeps hk => exact absurd hk.mode hchanged
  | app e now => exact absurd (apply_mode e now s) hchanged
  | rotary d now => exact absurd (rotary_mode d now s) hchanged
  | button dur now =>
    obtain ⟨hrun, hlong, htimer⟩ := press_of_button_changes_mode hchanged
    exact .inl ⟨hrun, dur, now, rfl, hlong, htimer⟩
  | timeout => exact .inr (.inl ⟨mode_eq_sourceSelect fun hrun => hchanged hrun.symm, rfl⟩)
  | tick now rc =>
    have hmode : (tick now rc s).mode ≠ s.mode := hchanged
    cases hs : s.mode with
    | run =>
      obtain ⟨dur, hbtn, hlong, htimer⟩ := press_of_tick_enters hs (hs ▸ hmode)
      exact .inr (.inr (.inl ⟨rfl, now, rc, dur, rfl, hbtn, hlong, htimer⟩))
    | sourceSelect =>
      have hrun : (tick now rc s).mode = .run := by
        by_contra hne
        exact hmode ((mode_eq_sourceSelect hne).trans hs.symm)
      have hdue := (due_of_tick_mode_run hrun).resolve_left (by simp [hs])
      exact .inr (.inr (.inr (.inl ⟨rfl, now, rc, rfl, hdue⟩)))
  | boot pv ps _ => exact .inr (.inr (.inr (.inr ⟨pv, ps, rfl⟩)))

/-- Settles O47: every instruction appends its actions to `OUT`. -/
theorem outputIsOnlyAppended : Obligations.OutputIsOnlyAppended := by
  intro i s t h
  obtain ⟨as, hout, -⟩ := exec_sendsWholeShadow h
  exact ⟨as, hout⟩

end Sys2Proof.Machine
end

section
/-! PROOFS. The callbacks (42_aggregator.md section 2) and the boot step (70_reset_and_hazards.md section 1). -/

namespace Sys2Proof.Machine

open Sys2Proof

/-- Settles O31, by the two rows' equations. -/
theorem callbacksFillTheCells : Obligations.CallbacksFillTheCells :=
  fun s d dur => ⟨exec_cbRot d s, exec_cbBtn dur s⟩

/-- Settles O45: the closed form of boot. -/
theorem bootWritesAndSends : Obligations.BootWritesAndSends := by
  intro pv ps s hbooted
  rw [exec_boot pv ps hbooted, boot_spec]
  simp [bootRegisters, attPair]

theorem bootVol_of_mem {x : Int} (hlow : -447 ≤ x) (hhigh : x ≤ 0) : bootVol (some x) = x := if_pos ⟨hlow, hhigh⟩

theorem bootVol_of_not_mem {x : Int} (h : x < -447 ∨ 0 < x) : bootVol (some x) = -447 := by
  refine if_neg ?_
  unfold volMin volMax
  omega

theorem bootSrc_of_mem {y : Nat} (hlow : 1 ≤ y) (hhigh : y ≤ 4) : (bootSrc (some y)).index = y := by
  interval_cases y <;> rfl

theorem bootSrc_of_not_mem {y : Nat} (h : y < 1 ∨ 4 < y) : (bootSrc (some y)).index = 1 := by
  have hnone : Source.ofIndex y = none := by
    unfold Source.ofIndex
    split <;> simp_all
  rw [bootSrc, hnone]
  rfl

/-- Settles O46: the two loads, in their domain and outside it. -/
theorem bootLoadsOrDefaults : Obligations.BootLoadsOrDefaults := by
  intro pv ps s hbooted
  have hvol : (boot pv ps s).vol = bootVol pv := rfl
  have hsrc : (boot pv ps s).src = bootSrc ps := rfl
  refine ⟨_, exec_boot pv ps hbooted, ?_, ?_, ?_, ?_, ?_, ?_⟩ <;> simp only [hvol, hsrc]
  · rintro x rfl hlow hhigh
    exact bootVol_of_mem hlow hhigh
  · rintro x rfl h
    exact bootVol_of_not_mem h
  · rintro rfl
    rfl
  · rintro y rfl hlow hhigh
    exact bootSrc_of_mem hlow hhigh
  · rintro y rfl h
    exact bootSrc_of_not_mem h
  · rintro rfl
    rfl

end Sys2Proof.Machine
end
